-- ==== Sys2Proof/Word.lean ====
section
/-!
DEFINITION. The word types of the CORE: the 32-bit register word, the 16-bit echo sample and the 8-bit FIR
coefficient (10_state R21, 20_memory R50).
-/

namespace Sys2Proof

/-- A 32-bit word: a register, CMD, WDATA, RDATA (R21, R70). -/
abbrev Word := BitVec 32

/-- A value of type `F`, held as its binary32 bit pattern (R10, R90). -/
abbrev F := BitVec 32

/-- One word of the echo buffer RAM: a signed 16-bit sample (R52). -/
abbrev Half := BitVec 16

end Sys2Proof
end

