-- ==== Sys2Proof/Config.lean ====
section
/-!
DEFINITION. The configuration record of 00_scope R6: the parameters that R6 values, the record `Cfg` of the OPEN
ones with the preset record of 43_reverb R171, and the free values (constants without a body) that stand for what
spec/93 leaves open.
-/

namespace Sys2Proof

/-! ## The parameters R6 gives a value -/

/-- `Q_SCALE` = 2^15: the float to fixed-point scale (R6, R102), as its exponent. -/
def Config.qScaleBits : Nat := 15

/-- `F2Q_NAN`: the result of converting a NaN to fixed point (R6, U2). -/
def Config.f2qNan : Int := 0

/-- `FIR_SHIFT`: the right shift of every FIR product (R6, R150). -/
def Config.firShift : Nat := 7

/-- `FIR_DEFAULT`'s first coefficient; the other seven are 0 (R6, R27). -/
def Config.firDefault0 : BitVec 8 := 127#8

/-- `ECHO_MAX_MS` (R6, R142). -/
def Config.echoMaxMs : Nat := 240

/-- `ECHO_INC_MS` (R6, R143). -/
def Config.echoIncMs : Nat := 16

/-- `REV_DESIGN_RATE` in Hz (R6, R176). -/
def Config.revDesignRate : Nat := 22050

/-- `RS_MAX_RATIO` (R6, R121). -/
def Config.rsMaxRatio : Nat := 256

/-- `RS_FUEL` = 2·RS_MAX_RATIO + 2: the watchdog bound on producer calls (R6, R127). -/
def Config.rsFuel : Nat := 514

/-! ## The preset record (R171) -/

/-- Ten values, one for each gain of R31 and R171. -/
structure Gains (α : Type) where
  iir : α
  comb1 : α
  comb2 : α
  comb3 : α
  comb4 : α
  apf1 : α
  apf2 : α
  wall : α
  lin : α
  rin : α
deriving DecidableEq, Repr

/-- Apply a function to each of the ten gains. -/
def Gains.map {α β : Type} (f : α → β) (g : Gains α) : Gains β :=
  { iir := f g.iir, comb1 := f g.comb1, comb2 := f g.comb2, comb3 := f g.comb3, comb4 := f g.comb4,
    apf1 := f g.apf1, apf2 := f g.apf2, wall := f g.wall, lin := f g.lin, rin := f g.rin }

/-- Twenty-two values, one for each delay-line address or length of R32 and R171. -/
structure Lines (α : Type) where
  mLSAME : α
  mRSAME : α
  dLSAME : α
  dRSAME : α
  mLDIFF : α
  mRDIFF : α
  dLDIFF : α
  dRDIFF : α
  mLCOMB1 : α
  mRCOMB1 : α
  mLCOMB2 : α
  mRCOMB2 : α
  mLCOMB3 : α
  mRCOMB3 : α
  mLCOMB4 : α
  mRCOMB4 : α
  mLAPF1 : α
  mRAPF1 : α
  mLAPF2 : α
  mRAPF2 : α
  dAPF1 : α
  dAPF2 : α
deriving DecidableEq, Repr

/-- Apply a function to each of the 22 addresses and lengths. -/
def Lines.map {α β : Type} (f : α → β) (l : Lines α) : Lines β :=
  { mLSAME := f l.mLSAME, mRSAME := f l.mRSAME, dLSAME := f l.dLSAME, dRSAME := f l.dRSAME,
    mLDIFF := f l.mLDIFF, mRDIFF := f l.mRDIFF, dLDIFF := f l.dLDIFF, dRDIFF := f l.dRDIFF,
    mLCOMB1 := f l.mLCOMB1, mRCOMB1 := f l.mRCOMB1, mLCOMB2 := f l.mLCOMB2, mRCOMB2 := f l.mRCOMB2,
    mLCOMB3 := f l.mLCOMB3, mRCOMB3 := f l.mRCOMB3, mLCOMB4 := f l.mLCOMB4, mRCOMB4 := f l.mRCOMB4,
    mLAPF1 := f l.mLAPF1, mRAPF1 := f l.mRAPF1, mLAPF2 := f l.mLAPF2, mRAPF2 := f l.mRAPF2,
    dAPF1 := f l.dAPF1, dAPF2 := f l.dAPF2 }

/-- The 22 addresses and lengths as a list, in the register order of R32. -/
def Lines.toList {α : Type} (l : Lines α) : List α :=
  [l.mLSAME, l.mRSAME, l.dLSAME, l.dRSAME, l.mLDIFF, l.mRDIFF, l.dLDIFF, l.dRDIFF,
   l.mLCOMB1, l.mRCOMB1, l.mLCOMB2, l.mRCOMB2, l.mLCOMB3, l.mRCOMB3, l.mLCOMB4, l.mRCOMB4,
   l.mLAPF1, l.mRAPF1, l.mLAPF2, l.mRAPF2, l.dAPF1, l.dAPF2]

/-- A preset record of R171: its footprint, ten signed Q1.15 gains, 22 addresses and lengths at the design rate. -/
structure Preset where
  size : Nat
  gains : Gains Half
  lines : Lines Nat
deriving DecidableEq, Repr

/-- The field constraints of R171: size ≥ 1 and every address and length below it. -/
def Preset.wf (p : Preset) : Bool :=
  decide (1 ≤ p.size) && p.lines.toList.all (fun a => decide (a < p.size))

/-- `HOST_ENDIAN`: the byte order of a byte-serial transport of the port words; no rule reads it (R6, R54). -/
inductive ByteOrder where
  | little
  | big
deriving DecidableEq, Repr

/-- The OPEN parameters of R6 (U7). -/
structure Cfg where
  /-- `EB_WORDS` -/
  ebWords : Nat
  /-- `WS_WORDS` -/
  wsWords : Nat
  /-- `PRESETS`, whose length is `NPRESET` -/
  presets : List Preset
  /-- `HOST_ENDIAN` -/
  hostEndian : ByteOrder
deriving DecidableEq, Repr

/-- The constraints U7 puts on the OPEN parameters. -/
def Cfg.wf (c : Cfg) : Bool :=
  decide (1 ≤ c.ebWords) && decide (c.ebWords ≤ 2 ^ 24) &&
  decide (1 ≤ c.wsWords) && decide (c.wsWords ≤ 2 ^ 24) &&
  decide (1 ≤ c.presets.length) && decide (c.presets.length ≤ 256) &&
  c.presets.all Preset.wf

/-- The fixture preset `T0` of R172: for vectors only, no preset of any hardware. -/
def Config.presetT0 : Preset :=
  { size := 64
    gains := { iir := 0x4000#16, comb1 := 0x4000#16, comb2 := 0x2000#16, comb3 := 0x2000#16, comb4 := 0x1000#16,
               apf1 := 0x4000#16, apf2 := 0x2000#16, wall := 0xC000#16, lin := 0x4000#16, rin := 0x4000#16 }
    lines := { mLSAME := 60, mRSAME := 52, dLSAME := 54, dRSAME := 46, mLDIFF := 44, mRDIFF := 36,
               dLDIFF := 53, dRDIFF := 45, mLCOMB1 := 58, mRCOMB1 := 50, mLCOMB2 := 55, mRCOMB2 := 47,
               mLCOMB3 := 42, mRCOMB3 := 34, mLCOMB4 := 40, mRCOMB4 := 31, mLAPF1 := 28, mRAPF1 := 22,
               mLAPF2 := 16, mRAPF2 := 10, dAPF1 := 3, dAPF2 := 4 } }

/-- DESIGN CHOICE, unsafe (log 2): the configuration the reset state carries, so that the machine can be run. The
spec leaves all four OPEN; every statement about a state holds for every value of its `cfg`. -/
def Config.resetCfg : Cfg :=
  { ebWords := 65536, wsWords := 65536, presets := [Config.presetT0], hostEndian := .little }

/-! ## Free values -/

/-- The operations that can generate a NaN (R90). -/
inductive FpOp where
  | add
  | sub
  | mul
  | div
deriving DecidableEq, Repr

/-- Free value (log 5): sign bit (bit 22) and payload (bits 21:0) of the quiet NaN that an operation returns on two
operands; U3 leaves it any value, R92 lets it be a function of the operands. -/
opaque Config.nanBits : FpOp → F → F → BitVec 23

/-- Free value (log 4): what word `i` of a RAM with words of `w` bits holds if nothing was written to it since the
event numbered `seed` (power-up, a reset, the watchdog): U4, U5. -/
opaque Config.ramContents (w : Nat) (seed i : Nat) : BitVec w

/-- Free value (log 6): the n-th unspecified register value of the run (U5). -/
opaque Config.freeWord : Nat → Word

end Sys2Proof
end

