-- ==== Sys2Proof/Machine/Float.lean ====
section
/-!
DEFINITION. Binary32 arithmetic of 40_arith_units R90 to R92 and the quarter-sine of R97, on bit patterns. Every finite
binary32 value is a whole number of units of 2^-149; each operation converts its operands to units, computes exactly
on integers and rounds once.
-/

namespace Sys2Proof.Machine

/-- +0.0, 0.5, 1.0 and 32768.0 (R90). -/
def fZero : F := 0x00000000#32
def fHalf : F := 0x3F000000#32
def fOne : F := 0x3F800000#32
def f32768 : F := 0x47000000#32

/-- The sign bit, bit 31 (R90). -/
def fSign (x : F) : Bool := decide (2 ^ 31 ≤ x.toNat)

/-- Bits 30:0: exponent and fraction (R90). -/
def fMag (x : F) : Nat := x.toNat % 2 ^ 31

/-- The magnitude pattern of infinity. -/
def fInfMag : Nat := 0x7F800000

/-- A NaN has the largest exponent and a fraction that is not 0 (R90). -/
def fIsNaN (x : F) : Bool := decide (fInfMag < fMag x)

/-- An infinity of either sign (R90). -/
def fIsInf (x : F) : Bool := decide (fMag x = fInfMag)

/-- Neither NaN nor infinite. -/
def fIsFinite (x : F) : Bool := decide (fMag x < fInfMag)

/-- The pattern with sign `s` and bits 30:0 = `mag`. -/
def fPack (s : Bool) (mag : Nat) : F := BitVec.ofNat 32 ((if s then 2 ^ 31 else 0) + mag)

/-- The magnitude of a finite value in units of 2^-149: a biased exponent of 0 (zero, subnormal) counts as 1 without
the hidden bit (R90). -/
def fUnits (x : F) : Nat :=
  let e := fMag x / 2 ^ 23
  let f := fMag x % 2 ^ 23
  if e = 0 then f else (f + 2 ^ 23) * 2 ^ (e - 1)

/-- `real(x)` in units of 2^-149, for finite x (R10). -/
def fReal (x : F) : Int := if fSign x then -(fUnits x : Int) else (fUnits x : Int)

/-- The number of bits of `m`; 0 for 0. -/
def bitLength (m : Nat) : Nat := if m = 0 then 0 else Nat.log2 m + 1

/-- `m / 2^k` to the nearest integer, ties to even. -/
def roundShift (m k : Nat) : Nat :=
  let q := m / 2 ^ k
  let r := m % 2 ^ k
  if 2 ^ k < 2 * r ∨ (2 * r = 2 ^ k ∧ q % 2 = 1) then q + 1 else q

/-- Bits 30:0 of the binary32 value nearest to `m · 2^-k`, ties to even, for k ≥ 149 (R90): 24 significant bits, or
fewer where the spacing would fall below 2^-149; infinity above the largest finite value. The sum of the exponent
field and the rounded significand carries into the exponent by itself. -/
def roundMag (m k : Nat) : Nat :=
  let sh := max (bitLength m - 24) (k - 149)
  min fInfMag ((sh + 149 - k) * 2 ^ 23 + roundShift m sh)

/-- A quiet NaN with sign and payload from `b` (R90, U3). -/
def fQuietNaN (b : BitVec 23) : F :=
  fPack (decide (2 ^ 22 ≤ b.toNat)) (0x7FC00000 + b.toNat % 2 ^ 22)

/-- The NaN an operation generates: a free value of the operation and its operands (log 5). -/
def fNaN (op : FpOp) (x y : F) : F := fQuietNaN (Config.nanBits op x y)

/-- −x: the sign bit flipped. -/
def fNeg (x : F) : F := fPack (!fSign x) (fMag x)

/-- The sum of two values that are not NaN and not two opposite infinities (R90). An exact zero is +0.0 unless both
operands are −0.0. -/
def fAddNonNaN (x y : F) : F :=
  if fIsInf x then x
  else if fIsInf y then y
  else
    let t := fReal x + fReal y
    if t = 0 then fPack (fSign x && fSign y) 0
    else fPack (decide (t < 0)) (roundMag t.natAbs 149)

/-- `fadd` (R90). -/
def fadd (x y : F) : F :=
  if fIsNaN x || fIsNaN y || (fIsInf x && fIsInf y && (fSign x != fSign y)) then fNaN .add x y
  else fAddNonNaN x y

/-- `fsub` (R90). -/
def fsub (x y : F) : F :=
  if fIsNaN x || fIsNaN y || (fIsInf x && fIsInf y && (fSign x == fSign y)) then fNaN .sub x y
  else fAddNonNaN x (fNeg y)

/-- `fmul` (R90): units multiply to units of 2^-298. -/
def fmul (x y : F) : F :=
  let s := fSign x != fSign y
  if fIsNaN x || fIsNaN y || (fIsInf x && decide (fMag y = 0)) || (decide (fMag x = 0) && fIsInf y) then
    fNaN .mul x y
  else if fIsInf x || fIsInf y then fPack s fInfMag
  else fPack s (roundMag (fUnits x * fUnits y) 298)

/-- `fdiv` (R90): the quotient to 320 fraction bits with a sticky bit below them, which rounds as the exact quotient
does. -/
def fdiv (x y : F) : F :=
  let s := fSign x != fSign y
  if fIsNaN x || fIsNaN y || (fIsInf x && fIsInf y) || (decide (fMag x = 0) && decide (fMag y = 0)) then
    fNaN .div x y
  else if fIsInf x || decide (fMag y = 0) then fPack s fInfMag
  else if fIsInf y then fPack s 0
  else
    let n := fUnits x * 2 ^ 320
    let sticky := if n % fUnits y = 0 then 0 else 1
    fPack s (roundMag (2 * (n / fUnits y) + sticky) 321)

/-- Where a value that is not NaN stands on the number line: patterns of one sign are ordered by their magnitude
bits, and both zeros stand at 0. -/
def fKey (x : F) : Int := if fSign x then -(fMag x : Int) else (fMag x : Int)

/-- `x < y`: false on a NaN (R90). `x > y` is `flt y x`. -/
def flt (x y : F) : Bool := !fIsNaN x && !fIsNaN y && decide (fKey x < fKey y)

/-- `x <= y`: false on a NaN (R90, R93). `x >= y` is `fle y x`. -/
def fle (x y : F) : Bool := !fIsNaN x && !fIsNaN y && decide (fKey x ≤ fKey y)

/-- `x == y`: false on a NaN, true on zeros of either sign (R90). -/
def feq (x y : F) : Bool := !fIsNaN x && !fIsNaN y && decide (fKey x = fKey y)

/-- The binary32 value nearest to an integer, ties to even; +0.0 for 0 (R91). -/
def fOfInt (n : Int) : F := fPack (decide (n < 0)) (roundMag (n.natAbs * 2 ^ 149) 149)

/-- `U32toF` (R91). -/
def u32ToF (n : Nat) : F := fOfInt (n : Int)

/-- `I16toF` (R91). -/
def i16ToF (n : Int) : F := fOfInt n

/-- `floor(real(x))` for a finite x that is not negative (R148, step 6). -/
def floorReal (x : F) : Nat := fUnits x / 2 ^ 149

/-! ## The quarter-sine (R97) -/

/-- π/2 in units of 2^-256, rounded down. -/
def halfPi : Nat := 0x1921fb54442d18469898cc51701b839a252049c1114cf98e804177d4c76273644

/-- One Horner step of the sine series at scale 2^256: from t to 1 − y/(2k(2k+1))·t, with y the squared angle. -/
def sinStep (y t k : Nat) : Nat := 2 ^ 256 - y * t / 2 ^ 256 / (2 * k * (2 * k + 1))

/-- The terms k, k−1, .., 1 of the sine series around the innermost value t. -/
def sinSeries (y : Nat) : Nat → Nat → Nat
  | 0, t => t
  | k + 1, t => sinSeries y k (sinStep y t (k + 1))

/-- `QSIN(u)` for 0 ≤ u ≤ 1 (R97): sin(u·π/2) by 32 terms of its series at scale 2^256, times u exactly, capped at 1
and rounded once. Its error before the rounding is below 2^-240 of the value (log 9). The unit is never used
elsewhere. -/
def qsin (u : F) : F :=
  let n := fUnits u
  let x := n * halfPi / 2 ^ 149
  let s := halfPi * sinSeries (x * x / 2 ^ 256) 32 (2 ^ 256) / 2 ^ 256
  fPack false (roundMag (min (n * s) (2 ^ 405)) 405)

end Sys2Proof.Machine
end

