-- ==== Sys2Proof/Machine/Arith.lean ====
section
/-!
DEFINITION. The pure units of 40_arith_units R93 to R105 and the integer functions of 00_scope R9.
-/

namespace Sys2Proof.Machine

/-- `clamp(x, lo, hi)` (R93): a NaN passes through. -/
def clamp (x lo hi : F) : F :=
  if flt x lo then lo else if flt hi x then hi else x

/-- `clamp01` (R93): total, never NaN, never −0.0. -/
def clamp01 (x : F) : F :=
  if fIsNaN x then fZero
  else if fle x fZero then fZero
  else if flt fOne x then fOne
  else x

/-- `eff(c, m)`: the effective parameter (R94). -/
def eff (c m : F) : F := clamp01 (fadd c m)

/-- `lerp(a, b, t)` with three roundings (R95). -/
def lerp (a b t : F) : F := fadd a (fmul (fsub b a) t)

/-- `xfade(a, b, f)`, the equal-power crossfade (R98). -/
def xfade (a b f : F) : F := fadd (fmul a (qsin (fsub fOne f))) (fmul b (qsin f))

/-- `roundInc(x, inc)` (R100): k = floor(q + 1/2) for the once-rounded quotient q. -/
def roundInc (x : F) (inc : Nat) : Nat :=
  let q := fdiv x (u32ToF inc)
  (2 * fUnits q + 2 ^ 149) / 2 ^ 150 * inc

/-- `sat16` (R9, R101). -/
def sat16 (n : Int) : Int := min 32767 (max (-32768) n)

/-- `wrap16` (R9, R101). -/
def wrap16 (n : Int) : Int := (BitVec.ofInt 16 n).toInt

/-- The exact value `units / 2^bits`, truncated toward zero, with the sign of x. -/
def truncScaled (x : F) (bits : Nat) : Int :=
  if fSign x then -((fUnits x / 2 ^ bits : Nat) : Int) else ((fUnits x / 2 ^ bits : Nat) : Int)

/-- A float scaled by 2^scale, truncated and saturated to 16 bits; NaN gives F2Q_NAN (R102, R104). -/
def toSat16 (x : F) (scale : Nat) : Int :=
  if fIsNaN x then Config.f2qNan
  else if fIsInf x then (if fSign x then -32768 else 32767)
  else sat16 (truncScaled x (149 - scale))

/-- `F2Q(x)`: float to Q1.15 (R102). -/
def f2q (x : F) : Int := toSat16 x Config.qScaleBits

/-- `F2I(x)`: float to integer (R104). -/
def f2i (x : F) : Int := toSat16 x 0

/-- `Q2F(q)`: Q1.15 to float, exact (R103). -/
def q2f (q : Int) : F := fdiv (i16ToF q) f32768

/-- `ring(i, L) = i mod L`, never negative (R105). -/
def ringIndex (i : Int) (len : Nat) : Nat := (i % (len : Int)).toNat

/-- `pow2ceil(n)`: the least power of two that is ≥ max(n, 1) (R9). -/
def pow2ceil (n : Nat) : Nat := if n ≤ 1 then 1 else 2 ^ (Nat.log2 (n - 1) + 1)

end Sys2Proof.Machine
end

