-- ==== Sys2Proof/Syntax.lean ====
section
/-!
DEFINITION. The command set of 30_encoding R74: one constructor per row of spec/opcode_table.json.
-/

namespace Sys2Proof

/-- The two resampler instances (R33): the operand `u` of format U. -/
inductive RsId where
  | rs0
  | rs1
deriving DecidableEq, Repr

/-- The 18 commands of R74. Operand fields are the unsigned integers of R73: `a` a register number, `p` a preset
index, `idx` a word index, `u` a resampler instance. -/
inductive Instr where
  /-- NOP (R216) -/
  | nop
  /-- WR a (R217) -/
  | wr (a : Nat)
  /-- RD a (R218) -/
  | rd (a : Nat)
  /-- EBRD idx (R219) -/
  | ebrd (idx : Nat)
  /-- EBWR idx (R220) -/
  | ebwr (idx : Nat)
  /-- WSRD idx (R221) -/
  | wsrd (idx : Nat)
  /-- WSWR idx (R222) -/
  | wswr (idx : Nat)
  /-- EINIT (R141) -/
  | einit
  /-- RINIT p (R173) -/
  | rinit (p : Nat)
  /-- RSINIT u (R121) -/
  | rsinit (u : RsId)
  /-- ECLR (R155) -/
  | eclr
  /-- RCLR (R185) -/
  | rclr
  /-- RSCLR u (R129) -/
  | rsclr (u : RsId)
  /-- ETICK (R146) -/
  | etick
  /-- RTICK (R180) -/
  | rtick
  /-- RSTICK u (R124) -/
  | rstick (u : RsId)
  /-- MIX (R201) -/
  | mix
  /-- FRAME (R205) -/
  | frame
deriving DecidableEq, Repr

end Sys2Proof
end

