-- ==== Sys2Proof/Machine/State.lean ====
section
/-!
DEFINITION. The state of the CORE as plain data: the register file of 10_state, the two RAMs of 20_memory, the
command port of 30_encoding R70 and what the host still presents; the reset state (R37, R260); and the reasons a step
of the model can stop.
-/

namespace Sys2Proof.Machine

/-- A register file of eight entries of `w` bits: S0..S7 (R22), FIRC0..7 (R27), FIRH0..7 (R29). -/
structure Bank (w : Nat) where
  r0 : BitVec w
  r1 : BitVec w
  r2 : BitVec w
  r3 : BitVec w
  r4 : BitVec w
  r5 : BitVec w
  r6 : BitVec w
  r7 : BitVec w
deriving DecidableEq, Repr

/-- All eight entries hold `v`. -/
def Bank.replicate {w : Nat} (v : BitVec w) : Bank w :=
  { r0 := v, r1 := v, r2 := v, r3 := v, r4 := v, r5 := v, r6 := v, r7 := v }

/-- A word-indexed RAM with words of `w` bits (R50). `cells` lists the words written since the contents were last
unspecified, addresses strictly rising; an unlisted word is unspecified (U4) and reads as the free value that `seed`
selects (`Ram.read`; log 4). -/
structure Ram (w : Nat) where
  cells : List (Nat × BitVec w)
  seed : Nat
deriving DecidableEq, Repr

/-- The echo model: its registers (R26 to R29) and its RAM `EB` (R52). -/
structure Echo where
  /-- ECFG_SIZE .. ECFG_FILT (R26) -/
  cfgSize : F
  cfgDelay : F
  cfgFb : F
  cfgFilt : F
  /-- EMOD_SIZE .. EMOD_FILT (R26) -/
  modSize : F
  modDelay : F
  modFb : F
  modFilt : F
  /-- FIRC0..7, the s8 values (R27) -/
  firc : Bank 8
  /-- E_RATE, E_CAP, E_INC, E_LEN, E_WIDX, E_CAND (R28) -/
  rate : Word
  cap : Word
  inc : Word
  len : Word
  widx : Word
  cand : Word
  /-- EEFF_SIZE .. EEFF_FILT (R28) -/
  effSize : F
  effDelay : F
  effFb : F
  effFilt : F
  /-- FIRH0..7, the s16 values (R29) -/
  firh : Bank 16
  /-- EB (R52) -/
  eb : Ram 16
deriving DecidableEq, Repr

/-- The reverb model: its registers (R30 to R32) and its RAM `WS` (R53). -/
structure Reverb where
  /-- R_RATE, R_CAP, R_PRESET, R_RING, R_CUR (R30) -/
  rate : Word
  cap : Word
  preset : Word
  ring : Word
  cur : Word
  /-- the ten G_ registers (R31) -/
  gains : Gains F
  /-- the 22 A_ registers (R32) -/
  lines : Lines Word
  /-- WS (R53) -/
  ws : Ram 32
deriving DecidableEq, Repr

/-- One resampler instance: the eight registers of R33. -/
structure Rs where
  period : F
  phase : F
  lastL : F
  lastR : F
  nextL : F
  nextR : F
  driving : Word
  driven : Word
deriving DecidableEq, Repr

/-- The fields of STATUS (R25); the other bits of the register hold nothing and read as 0. -/
structure Status where
  eReady : Bool
  rReady : Bool
  rs0Ready : Bool
  rs1Ready : Bool
  fatal : Bool
  fcode : BitVec 8
deriving DecidableEq, Repr

/-- The units that have a READY bit (R25). -/
inductive UnitId where
  | echo
  | reverb
  | rs (u : RsId)
deriving DecidableEq, Repr

/-- The response codes of R236. -/
inductive Response where
  | ok
  | illegal
  | range
  | readOnly
  | notReady
  | param
  | capacity
  | watchdog
  | halted
deriving DecidableEq, Repr

/-- The four fields of the command port (R70): the transaction presented last and the answer given last. -/
structure Port where
  cmd : Word
  wdata : Word
  resp : BitVec 4
  rdata : Word
deriving DecidableEq, Repr

/-- What the host can do to the CORE (R7, R70, R260): present one transaction, or assert reset between two. -/
inductive HostEvent where
  | transaction (cmd wdata : Word)
  | reset
deriving DecidableEq, Repr

/-- The whole state (R20) with the command port, the host's coming events and the model's own fields. -/
structure State where
  /-- the configuration record of R6; no step changes it (log 2) -/
  cfg : Cfg
  /-- what the host will present, in order (R24; log 1) -/
  pending : List HostEvent
  /-- the command port (R70) -/
  port : Port
  /-- S0..S7 (R22) -/
  samples : Bank 32
  /-- XFADE, WETDRY, ARG0, ARG1 (R23) -/
  xfade : F
  wetdry : F
  arg0 : Word
  arg1 : Word
  /-- the echo model with EB (R26 to R29, R52) -/
  echo : Echo
  /-- the reverb model with WS (R30 to R32, R53) -/
  reverb : Reverb
  /-- RS0_* and RS1_* (R33) -/
  rs0 : Rs
  rs1 : Rs
  /-- STATUS (R25) -/
  status : Status
  /-- the model's own: how many free values were used (log 6) -/
  freeCount : Nat
deriving DecidableEq, Repr

/-- Why a step can stop with a fault. Neither is reached from reset: they stand for accesses to RAM words that do not
exist, in states that break the invariants of R28 and R32 (log 7). -/
inductive Fault where
  /-- Raised by ETICK, ECLR, RSTICK 0 and FRAME when the echo ring does not lie inside EB (R52, R149). Safe: the spec
  gives the access no meaning, and no run from reset gets there. -/
  | ebIndex
  /-- Raised by RTICK, RCLR, RSTICK 1 and FRAME when the reverb ring does not lie inside WS (R53, R179). Safe: the
  spec gives the access no meaning, and no run from reset gets there. -/
  | wsIndex
deriving DecidableEq, Repr

/-- Why a step can be refused. -/
inductive Refusal where
  /-- Raised by an arm of `exec` whose command has no meaning yet; no arm does. Safe: nothing can be proved of it. -/
  | notModelled (mnemonic : String)
deriving DecidableEq, Repr

/-- A RAM whose contents are unspecified (U4). -/
def Ram.unspecified {w : Nat} (seed : Nat) : Ram w := { cells := [], seed := seed }

/-- The echo model's registers at reset (R37): all zero but FIRC0 = 127; EB unspecified. -/
def Echo.reset (seed : Nat) : Echo :=
  { cfgSize := 0#32, cfgDelay := 0#32, cfgFb := 0#32, cfgFilt := 0#32
    modSize := 0#32, modDelay := 0#32, modFb := 0#32, modFilt := 0#32
    firc := { Bank.replicate 0#8 with r0 := Config.firDefault0 }
    rate := 0#32, cap := 0#32, inc := 0#32, len := 0#32, widx := 0#32, cand := 0#32
    effSize := 0#32, effDelay := 0#32, effFb := 0#32, effFilt := 0#32
    firh := Bank.replicate 0#16
    eb := Ram.unspecified seed }

/-- The reverb model's registers at reset (R37): all zero; WS unspecified. -/
def Reverb.reset (seed : Nat) : Reverb :=
  { rate := 0#32, cap := 0#32, preset := 0#32, ring := 0#32, cur := 0#32
    gains := { iir := 0#32, comb1 := 0#32, comb2 := 0#32, comb3 := 0#32, comb4 := 0#32,
               apf1 := 0#32, apf2 := 0#32, wall := 0#32, lin := 0#32, rin := 0#32 }
    lines := { mLSAME := 0#32, mRSAME := 0#32, dLSAME := 0#32, dRSAME := 0#32, mLDIFF := 0#32, mRDIFF := 0#32,
               dLDIFF := 0#32, dRDIFF := 0#32, mLCOMB1 := 0#32, mRCOMB1 := 0#32, mLCOMB2 := 0#32,
               mRCOMB2 := 0#32, mLCOMB3 := 0#32, mRCOMB3 := 0#32, mLCOMB4 := 0#32, mRCOMB4 := 0#32,
               mLAPF1 := 0#32, mRAPF1 := 0#32, mLAPF2 := 0#32, mRAPF2 := 0#32, dAPF1 := 0#32, dAPF2 := 0#32 }
    ws := Ram.unspecified seed }

/-- A resampler's registers at reset (R37): all zero. -/
def Rs.reset : Rs :=
  { period := 0#32, phase := 0#32, lastL := 0#32, lastR := 0#32, nextL := 0#32, nextR := 0#32,
    driving := 0#32, driven := 0#32 }

/-- STATUS at reset: 0 (R25, R37). -/
def Status.reset : Status :=
  { eReady := false, rReady := false, rs0Ready := false, rs1Ready := false, fatal := false, fcode := 0#8 }

/-- The port before the first transaction: DESIGN CHOICE, unsafe (log 3): R70 states no value. -/
def Port.reset : Port := { cmd := 0#32, wdata := 0#32, resp := 0#4, rdata := 0#32 }

/-- The state after power-up reset (R37, R260). `cfg`, `pending`, the port, the seeds and the counter are the
model's choices (logs 1, 2, 3, 4, 6). -/
def State.reset : State :=
  { cfg := Config.resetCfg
    pending := []
    port := Port.reset
    samples := Bank.replicate 0#32
    xfade := 0#32
    wetdry := 0#32
    arg0 := 0#32
    arg1 := 0#32
    echo := Echo.reset 0
    reverb := Reverb.reset 0
    rs0 := Rs.reset
    rs1 := Rs.reset
    status := Status.reset
    freeCount := 1 }

end Sys2Proof.Machine
end

