-- ==== Sys2Proof/Machine/Flags.lean ====
section
/-!
DEFINITION. The STATUS register (10_state R25): its word, its READY bits and the fatal latch. No arithmetic sets a flag.
-/

namespace Sys2Proof.Machine

/-- A bit as a number. -/
def bitNat (b : Bool) : Nat := if b then 1 else 0

/-- STATUS as RD returns it (R25): bits 3:0 READY, bit 7 FATAL, bits 15:8 FCODE, every other bit 0. -/
def Status.word (st : Status) : Word :=
  BitVec.ofNat 32 (bitNat st.eReady + 2 * bitNat st.rReady + 4 * bitNat st.rs0Ready + 8 * bitNat st.rs1Ready
    + 128 * bitNat st.fatal + 256 * st.fcode.toNat)

/-- The READY bit of a unit (R25). -/
def Status.ready (st : Status) : UnitId → Bool
  | .echo => st.eReady
  | .reverb => st.rReady
  | .rs .rs0 => st.rs0Ready
  | .rs .rs1 => st.rs1Ready

/-- Set or clear the READY bit of a unit (R25). -/
def Status.setReady (st : Status) (u : UnitId) (b : Bool) : Status :=
  match u with
  | .echo => { st with eReady := b }
  | .reverb => { st with rReady := b }
  | .rs .rs0 => { st with rs0Ready := b }
  | .rs .rs1 => { st with rs1Ready := b }

/-- Set FATAL and FCODE (R240). -/
def Status.latchFatal (st : Status) (code : BitVec 8) : Status :=
  { st with fatal := true, fcode := code }

end Sys2Proof.Machine
end

