-- ==== Sys2Proof/Machine/Ops.lean ====
section
/-!
DEFINITION. The named operations every meaning is built from: reading and writing the two RAMs (20_memory R52, R53),
the eight-entry register files, answering a transaction (R70), the check order (R238), taking an error (R237, R240)
and what stands for the return from one, reset (R244, R260), and the unspecified state after a watchdog (U5).
-/

namespace Sys2Proof.Machine

/-! ## RAM -/

/-- The word written at index `i`, none if nothing was written there. -/
def cellsLookup {w : Nat} : List (Nat × BitVec w) → Nat → Option (BitVec w)
  | [], _ => none
  | (a, v) :: rest, i => if a = i then some v else cellsLookup rest i

/-- Put `v` at index `i`, keeping the addresses strictly rising. -/
def cellsInsert {w : Nat} (i : Nat) (v : BitVec w) : List (Nat × BitVec w) → List (Nat × BitVec w)
  | [] => [(i, v)]
  | (a, x) :: rest =>
    if i < a then (i, v) :: (a, x) :: rest
    else if a = i then (i, v) :: rest
    else (a, x) :: cellsInsert i v rest

/-- What a word that nothing has written reads as: a free value (U4; log 4). -/
def Ram.unwritten {w : Nat} (m : Ram w) (i : Nat) : BitVec w := Config.ramContents w m.seed i

/-- `MemRead` (R52, R53). -/
def Ram.read {w : Nat} (m : Ram w) (i : Nat) : BitVec w :=
  match cellsLookup m.cells i with
  | some v => v
  | none => m.unwritten i

/-- `MemWrite` (R52, R53): no other index changes. -/
def Ram.write {w : Nat} (m : Ram w) (i : Nat) (v : BitVec w) : Ram w :=
  { m with cells := cellsInsert i v m.cells }

/-- `MemWrite` of `v` at every index 0 .. n−1 (R141, R155, R173, R185). -/
def Ram.fill {w : Nat} (m : Ram w) (n : Nat) (v : BitVec w) : Ram w :=
  { m with cells := (List.range n).map (fun i => (i, v)) ++ m.cells.filter (fun c => decide (n ≤ c.1)) }

/-- The canonical form: addresses strictly rising. No entry can equal what an unlisted word reads as, because an
unlisted word holds no written value (log 4). -/
def Ram.wf {w : Nat} (m : Ram w) : Bool := decide (m.cells.Pairwise (fun a b => a.1 < b.1))

/-- Every written word exists: its index is below the physical size (R52, R53). -/
def Ram.within {w : Nat} (m : Ram w) (words : Nat) : Bool := m.cells.all (fun c => decide (c.1 < words))

/-! ## Register files of eight -/

/-- Entry `i`. -/
def Bank.get {w : Nat} (b : Bank w) (i : Fin 8) : BitVec w :=
  match i with
  | 0 => b.r0
  | 1 => b.r1
  | 2 => b.r2
  | 3 => b.r3
  | 4 => b.r4
  | 5 => b.r5
  | 6 => b.r6
  | 7 => b.r7

/-- Write entry `i`. -/
def Bank.set {w : Nat} (b : Bank w) (i : Fin 8) (v : BitVec w) : Bank w :=
  match i with
  | 0 => { b with r0 := v }
  | 1 => { b with r1 := v }
  | 2 => { b with r2 := v }
  | 3 => { b with r3 := v }
  | 4 => { b with r4 := v }
  | 5 => { b with r5 := v }
  | 6 => { b with r6 := v }
  | 7 => { b with r7 := v }

/-- Shift every entry up by one, discard the last, insert `v` at entry 0 (R150). -/
def Bank.shiftIn {w : Nat} (b : Bank w) (v : BitVec w) : Bank w :=
  { r0 := v, r1 := b.r0, r2 := b.r1, r3 := b.r2, r4 := b.r3, r5 := b.r4, r6 := b.r5, r7 := b.r6 }

/-! ## Resampler instances and sample pairs -/

/-- The registers of instance u (R33). -/
def State.rs (s : State) : RsId → Rs
  | .rs0 => s.rs0
  | .rs1 => s.rs1

/-- Replace the registers of instance u. -/
def State.setRs (s : State) (u : RsId) (r : Rs) : State :=
  match u with
  | .rs0 => { s with rs0 := r }
  | .rs1 => { s with rs1 := r }

/-- Write the echo output pair S2, S3 (R22). -/
def State.setEchoOut (s : State) (l r : F) : State :=
  { s with samples := { s.samples with r2 := l, r3 := r } }

/-- Write the reverb output pair S4, S5 (R22). -/
def State.setReverbOut (s : State) (l r : F) : State :=
  { s with samples := { s.samples with r4 := l, r5 := r } }

/-- Write the frame output pair S6, S7 (R22). -/
def State.setFrameOut (s : State) (l r : F) : State :=
  { s with samples := { s.samples with r6 := l, r7 := r } }

/-- The output pair of resampler u: S[2 + 2u], S[3 + 2u] (R124). -/
def State.setRsOut (s : State) (u : RsId) (l r : F) : State :=
  match u with
  | .rs0 => s.setEchoOut l r
  | .rs1 => s.setReverbOut l r

/-! ## Answering a transaction -/

/-- The code of a response on RESP (R236). -/
def Response.code : Response → Nat
  | .ok => 0
  | .illegal => 1
  | .range => 2
  | .readOnly => 3
  | .notReady => 4
  | .param => 5
  | .capacity => 6
  | .watchdog => 7
  | .halted => 8

/-- Answer the transaction: RESP and RDATA (R70). -/
def State.respond (s : State) (r : Response) (v : Word) : State :=
  { s with port := { s.port with resp := BitVec.ofNat 4 r.code, rdata := v } }

/-- `respond OK` (R11): RESP = 0, RDATA = 0. -/
def State.respondOk (s : State) : State := s.respond .ok 0#32

/-! ## Taking an error, and the way back -/

/-- Taking an error (R237, R240, R243). Without a unit it is not fatal: nothing changes but the answer. With the unit
concerned it is fatal: FATAL is set, FCODE takes the code and the unit's READY bit is cleared. RDATA is 0. -/
def State.takeError (s : State) (e : Response) (unit : Option UnitId) : State :=
  match unit with
  | none => s.respond e 0#32
  | some u =>
    { s with status := (s.status.latchFatal (BitVec.ofNat 8 e.code)).setReady u false }.respond e 0#32

/-- Reset (R260), the only way back from a fatal error (R244): every register at its reset value, both RAMs
unspecified anew (U4); the configuration and what the host still presents stay. -/
def State.hardReset (s : State) : State :=
  { State.reset with
    cfg := s.cfg
    pending := s.pending
    echo := Echo.reset s.freeCount
    reverb := Reverb.reset s.freeCount
    freeCount := s.freeCount + 1 }

/-! ## The check order of R238 -/

/-- What a meaning answers. -/
abbrev Result := Host.Outcome State Fault Refusal

/-- One check whose failure is a non-fatal error (R237, R238). -/
def check (ok : Bool) (e : Response) (s : State) (k : Result) : Result :=
  if ok then k else .next (s.takeError e none)

/-- One check of a constructor whose failure is fatal (R238 steps 6 and 7, R240). -/
def checkFatal (ok : Bool) (e : Response) (u : UnitId) (s : State) (k : Result) : Result :=
  if ok then k else .next (s.takeError e (some u))

/-- Check 2 of R238: `ERR_HALTED` while FATAL = 1. -/
def checkLive (s : State) (k : Result) : Result := check (!s.status.fatal) .halted s k

/-- Stop where the spec gives a RAM access no meaning (log 7). -/
def requireRam (ok : Bool) (f : Fault) (k : Result) : Result := if ok then k else .fault f

/-- The echo model's accesses lie inside EB: ring and capacity are not 0 and not above EB_WORDS (R28, R149). -/
def State.echoRingOk (s : State) : Bool :=
  decide (1 ≤ s.echo.len.toNat) && decide (s.echo.len.toNat ≤ s.cfg.ebWords) &&
  decide (1 ≤ s.echo.cap.toNat) && decide (s.echo.cap.toNat ≤ s.cfg.ebWords)

/-- The reverb model's accesses lie inside WS: the ring is not 0 and not above WS_WORDS (R32, R179). -/
def State.reverbRingOk (s : State) : Bool :=
  decide (1 ≤ s.reverb.ring.toNat) && decide (s.reverb.ring.toNat ≤ s.cfg.wsWords)

/-! ## The unspecified state after a watchdog (U5; log 6) -/

/-- Eight free register values, from the n-th on. -/
def Bank.free {w : Nat} (n : Nat) : Bank w :=
  { r0 := (Config.freeWord n).setWidth w
    r1 := (Config.freeWord (n + 1)).setWidth w
    r2 := (Config.freeWord (n + 2)).setWidth w
    r3 := (Config.freeWord (n + 3)).setWidth w
    r4 := (Config.freeWord (n + 4)).setWidth w
    r5 := (Config.freeWord (n + 5)).setWidth w
    r6 := (Config.freeWord (n + 6)).setWidth w
    r7 := (Config.freeWord (n + 7)).setWidth w }

/-- A resampler instance whose registers are free values. -/
def Rs.free (n : Nat) : Rs :=
  { period := Config.freeWord n, phase := Config.freeWord (n + 1)
    lastL := Config.freeWord (n + 2), lastR := Config.freeWord (n + 3)
    nextL := Config.freeWord (n + 4), nextR := Config.freeWord (n + 5)
    driving := Config.freeWord (n + 6), driven := Config.freeWord (n + 7) }

/-- An echo model whose registers and RAM are free values. -/
def Echo.free (n : Nat) : Echo :=
  { cfgSize := Config.freeWord n, cfgDelay := Config.freeWord (n + 1)
    cfgFb := Config.freeWord (n + 2), cfgFilt := Config.freeWord (n + 3)
    modSize := Config.freeWord (n + 4), modDelay := Config.freeWord (n + 5)
    modFb := Config.freeWord (n + 6), modFilt := Config.freeWord (n + 7)
    firc := Bank.free (n + 8)
    rate := Config.freeWord (n + 16), cap := Config.freeWord (n + 17), inc := Config.freeWord (n + 18)
    len := Config.freeWord (n + 19), widx := Config.freeWord (n + 20), cand := Config.freeWord (n + 21)
    effSize := Config.freeWord (n + 22), effDelay := Config.freeWord (n + 23)
    effFb := Config.freeWord (n + 24), effFilt := Config.freeWord (n + 25)
    firh := Bank.free (n + 26)
    eb := Ram.unspecified n }

/-- Ten free gains. -/
def freeGains (n : Nat) : Gains F :=
  { iir := Config.freeWord n, comb1 := Config.freeWord (n + 1), comb2 := Config.freeWord (n + 2)
    comb3 := Config.freeWord (n + 3), comb4 := Config.freeWord (n + 4), apf1 := Config.freeWord (n + 5)
    apf2 := Config.freeWord (n + 6), wall := Config.freeWord (n + 7), lin := Config.freeWord (n + 8)
    rin := Config.freeWord (n + 9) }

/-- Twenty-two free addresses. -/
def freeLines (n : Nat) : Lines Word :=
  { mLSAME := Config.freeWord n, mRSAME := Config.freeWord (n + 1), dLSAME := Config.freeWord (n + 2)
    dRSAME := Config.freeWord (n + 3), mLDIFF := Config.freeWord (n + 4), mRDIFF := Config.freeWord (n + 5)
    dLDIFF := Config.freeWord (n + 6), dRDIFF := Config.freeWord (n + 7), mLCOMB1 := Config.freeWord (n + 8)
    mRCOMB1 := Config.freeWord (n + 9), mLCOMB2 := Config.freeWord (n + 10), mRCOMB2 := Config.freeWord (n + 11)
    mLCOMB3 := Config.freeWord (n + 12), mRCOMB3 := Config.freeWord (n + 13), mLCOMB4 := Config.freeWord (n + 14)
    mRCOMB4 := Config.freeWord (n + 15), mLAPF1 := Config.freeWord (n + 16), mRAPF1 := Config.freeWord (n + 17)
    mLAPF2 := Config.freeWord (n + 18), mRAPF2 := Config.freeWord (n + 19), dAPF1 := Config.freeWord (n + 20)
    dAPF2 := Config.freeWord (n + 21) }

/-- A reverb model whose registers and RAM are free values. -/
def Reverb.free (n : Nat) : Reverb :=
  { rate := Config.freeWord n, cap := Config.freeWord (n + 1), preset := Config.freeWord (n + 2)
    ring := Config.freeWord (n + 3), cur := Config.freeWord (n + 4)
    gains := freeGains (n + 5)
    lines := freeLines (n + 15)
    ws := Ram.unspecified n }

/-- How many free values one watchdog takes: 8 for the instance, at most 37 for its model, 4 for the outputs. -/
def watchdogFreeCount : Nat := 64

/-- The instance that hit the bound and its producer's model hold free values (U5). -/
def State.freeUnit (s : State) (u : RsId) : State :=
  match u with
  | .rs0 => { s with rs0 := Rs.free s.freeCount, echo := Echo.free (s.freeCount + 8) }
  | .rs1 => { s with rs1 := Rs.free s.freeCount, reverb := Reverb.free (s.freeCount + 8) }

/-- `raise ERR_WATCHDOG` for instance u (R127, R240, U5): the instance, its producer's model and the command's output
registers hold free values (S6 and S7 too if the command is FRAME), STATUS is as for every fatal error, everything else
is unchanged. -/
def State.takeWatchdog (s : State) (u : RsId) (isFrame : Bool) : State :=
  let n := s.freeCount
  let t := (s.freeUnit u).setRsOut u (Config.freeWord (n + 60)) (Config.freeWord (n + 61))
  let t := if isFrame then t.setFrameOut (Config.freeWord (n + 62)) (Config.freeWord (n + 63)) else t
  { t with freeCount := n + watchdogFreeCount }.takeError .watchdog (some (.rs u))

end Sys2Proof.Machine
end

