-- ==== Sys2Proof/Machine/Echo.lean ====
section
/-!
DEFINITION. The echo model (42_echo): EINIT, ETICK, ECLR, and `EchoTick`, which resampler 0 and FRAME also call.
-/

namespace Sys2Proof.Machine

/-- The required capacity in samples (R142). -/
def echoRequired (rate : Nat) : Nat := Config.echoMaxMs * rate / 1000

/-- The length increment in samples (R143). -/
def echoIncrement (rate : Nat) : Nat := max 1 (Config.echoIncMs * rate / 1000)

/-- The default coefficients `FIR_DEFAULT` (R27). -/
def firDefault : Bank 8 := { Bank.replicate 0#8 with r0 := Config.firDefault0 }

/-- What a successful EINIT writes (R141, R144). The eight config and modulation registers keep their values. -/
def Echo.construct (e : Echo) (rate cap : Word) : Echo :=
  { e with
    rate := rate
    cap := cap
    inc := BitVec.ofNat 32 (echoIncrement rate.toNat)
    len := cap
    widx := 0#32
    cand := 0#32
    effSize := fZero
    effDelay := fZero
    effFb := fZero
    effFilt := fZero
    firh := Bank.replicate 0#16
    firc := firDefault
    eb := e.eb.fill cap.toNat 0#16 }

/-- What ECLR writes (R155). -/
def Echo.clear (e : Echo) : Echo :=
  { e with eb := e.eb.fill e.cap.toNat 0#16, firh := Bank.replicate 0#16 }

/-- `EchoCand(size)` (R145). -/
def echoCand (cap inc : Nat) (size : F) : Nat :=
  min cap (max 1 (roundInc (fmul size (u32ToF cap)) inc))

/-- One FIR product: exact, then the floor shift by FIR_SHIFT (R150). -/
def firProduct (c : BitVec 8) (h : Half) : Int := c.toInt * h.toInt / 2 ^ Config.firShift

/-- The filter's sum (R150): taps 0 to 6 summed and wrapped once, tap 7 added and saturated. -/
def firSum (c : Bank 8) (h : Bank 16) : Int :=
  let acc := wrap16 (firProduct c.r0 h.r0 + firProduct c.r1 h.r1 + firProduct c.r2 h.r2 + firProduct c.r3 h.r3
    + firProduct c.r4 h.r4 + firProduct c.r5 h.r5 + firProduct c.r6 h.r6)
  sat16 (acc + firProduct c.r7 h.r7)

/-- Step 3: the advanced write index (R148). -/
def Echo.nextIndex (e : Echo) : Nat := (e.widx.toNat + 1) % e.len.toNat

/-- Step 2: the candidate length of this tick (R145, R148). -/
def Echo.candidate (e : Echo) : Nat := echoCand e.cap.toNat e.inc.toNat (eff e.cfgSize e.modSize)

/-- Step 4: the length after the tick, changed only where the new write index is 0 (R148, R153). -/
def Echo.nextLen (e : Echo) : Nat :=
  if e.candidate ≠ e.len.toNat ∧ e.nextIndex = 0 then e.candidate else e.len.toNat

/-- Step 5: the mono input in fixed point (R148). -/
def monoQ (inL inR : F) : Int := f2q (fmul (fadd inL inR) fHalf)

/-- Step 6: the read index (R148). -/
def Echo.readIndex (e : Echo) : Nat :=
  let off := floorReal (fmul (eff e.cfgDelay e.modDelay) (u32ToF e.nextLen))
  ringIndex ((e.nextIndex : Int) - (off : Int)) e.nextLen

/-- Step 7: the filter history after the delayed word was shifted in (R148, R150). -/
def Echo.nextHistory (e : Echo) : Bank 16 := e.firh.shiftIn (e.eb.read e.readIndex)

/-- Step 7: the filtered sample (R150). -/
def Echo.filtered (e : Echo) : Int := firSum e.firc e.nextHistory

/-- Step 8: the word written back (R151). -/
def Echo.writeBack (e : Echo) (inL inR : F) : Int :=
  sat16 (monoQ inL inR + f2i (fmul (eff e.cfgFb e.modFb) (i16ToF e.filtered)))

/-- `EchoTick(inL, inR)` (R148): the model after the tick and the output pair (R152). -/
def Echo.tick (e : Echo) (inL inR : F) : Echo × F × F :=
  let outL := q2f e.filtered
  ({ e with
     effSize := eff e.cfgSize e.modSize
     effDelay := eff e.cfgDelay e.modDelay
     effFb := eff e.cfgFb e.modFb
     effFilt := eff e.cfgFilt e.modFilt
     cand := BitVec.ofNat 32 e.candidate
     widx := BitVec.ofNat 32 e.nextIndex
     len := BitVec.ofNat 32 e.nextLen
     firh := e.nextHistory
     eb := e.eb.write e.nextIndex (BitVec.ofInt 16 (e.writeBack inL inR)) },
   outL, fsub fZero outL)

/-- EINIT (R141). -/
def execEinit (s : State) : Result :=
  checkLive s <|
  checkFatal (decide (s.arg0.toNat ≠ 0) && decide (s.arg1.toNat ≠ 0) && decide (s.arg1.toNat ≤ s.cfg.ebWords))
    .param .echo s <|
  checkFatal (decide (echoRequired s.arg0.toNat ≤ s.arg1.toNat)) .capacity .echo s <|
  .next { s with
    echo := s.echo.construct s.arg0 s.arg1
    status := s.status.setReady .echo true }.respondOk

/-- ECLR (R155). -/
def execEclr (s : State) : Result :=
  checkLive s <|
  check s.status.eReady .notReady s <|
  requireRam (decide (s.echo.cap.toNat ≤ s.cfg.ebWords)) .ebIndex <|
  .next { s with echo := s.echo.clear }.respondOk

/-- ETICK (R146). -/
def execEtick (s : State) : Result :=
  checkLive s <|
  check s.status.eReady .notReady s <|
  requireRam s.echoRingOk .ebIndex <|
  let r := s.echo.tick s.samples.r0 s.samples.r1
  .next (({ s with echo := r.1 }.setEchoOut r.2.1 r.2.2).respondOk)

end Sys2Proof.Machine
end

