-- ==== Sys2Proof/Machine/Operands.lean ====
section
/-!
DEFINITION. Register operands: the register map of 10_state R36, what a register reads as (R21, R218) and how WR writes
one (R73, R217).
-/

namespace Sys2Proof.Machine

/-- The four parameters of the echo model (R26). -/
inductive EchoParam where
  | size
  | delay
  | fb
  | filt
deriving DecidableEq, Repr

/-- The ten gain registers (R31). -/
inductive GainId where
  | iir | comb1 | comb2 | comb3 | comb4 | apf1 | apf2 | wall | lin | rin
deriving DecidableEq, Repr

/-- The 22 address registers (R32). -/
inductive LineId where
  | mLSAME | mRSAME | dLSAME | dRSAME | mLDIFF | mRDIFF | dLDIFF | dRDIFF
  | mLCOMB1 | mRCOMB1 | mLCOMB2 | mRCOMB2 | mLCOMB3 | mRCOMB3 | mLCOMB4 | mRCOMB4
  | mLAPF1 | mRAPF1 | mLAPF2 | mRAPF2 | dAPF1 | dAPF2
deriving DecidableEq, Repr

/-- The eight registers of a resampler instance (R33). -/
inductive RsField where
  | period | phase | lastL | lastR | nextL | nextR | driving | driven
deriving DecidableEq, Repr

/-- The 100 implemented registers (R36). -/
inductive Reg where
  | sample (i : Fin 8)
  | xfade
  | wetdry
  | arg0
  | arg1
  | ecfg (p : EchoParam)
  | emod (p : EchoParam)
  | firc (i : Fin 8)
  | eRate
  | eCap
  | eInc
  | eLen
  | eWidx
  | eCand
  | eeff (p : EchoParam)
  | firh (i : Fin 8)
  | rRate
  | rCap
  | rPreset
  | rRing
  | rCur
  | gain (g : GainId)
  | line (l : LineId)
  | rs (u : RsId) (k : RsField)
  | status
deriving DecidableEq, Repr

/-- The offset of an echo parameter in its group of four (R26, R28). -/
def EchoParam.index : EchoParam → Nat
  | .size => 0
  | .delay => 1
  | .fb => 2
  | .filt => 3

/-- The offset of a gain register (R31). -/
def GainId.index : GainId → Nat
  | .iir => 0
  | .comb1 => 1
  | .comb2 => 2
  | .comb3 => 3
  | .comb4 => 4
  | .apf1 => 5
  | .apf2 => 6
  | .wall => 7
  | .lin => 8
  | .rin => 9

/-- The offset of an address register (R32). -/
def LineId.index : LineId → Nat
  | .mLSAME => 0
  | .mRSAME => 1
  | .dLSAME => 2
  | .dRSAME => 3
  | .mLDIFF => 4
  | .mRDIFF => 5
  | .dLDIFF => 6
  | .dRDIFF => 7
  | .mLCOMB1 => 8
  | .mRCOMB1 => 9
  | .mLCOMB2 => 10
  | .mRCOMB2 => 11
  | .mLCOMB3 => 12
  | .mRCOMB3 => 13
  | .mLCOMB4 => 14
  | .mRCOMB4 => 15
  | .mLAPF1 => 16
  | .mRAPF1 => 17
  | .mLAPF2 => 18
  | .mRAPF2 => 19
  | .dAPF1 => 20
  | .dAPF2 => 21

/-- The offset k of a resampler register (R33). -/
def RsField.index : RsField → Nat
  | .period => 0
  | .phase => 1
  | .lastL => 2
  | .lastR => 3
  | .nextL => 4
  | .nextR => 5
  | .driving => 6
  | .driven => 7

/-- The register number (R22, R23, R25 to R33, R36). -/
def Reg.number : Reg → Nat
  | .sample i => i.val
  | .xfade => 0x08
  | .wetdry => 0x09
  | .arg0 => 0x0A
  | .arg1 => 0x0B
  | .ecfg p => 0x10 + p.index
  | .emod p => 0x14 + p.index
  | .firc i => 0x18 + i.val
  | .eRate => 0x20
  | .eCap => 0x21
  | .eInc => 0x22
  | .eLen => 0x23
  | .eWidx => 0x24
  | .eCand => 0x25
  | .eeff p => 0x28 + p.index
  | .firh i => 0x30 + i.val
  | .rRate => 0x40
  | .rCap => 0x41
  | .rPreset => 0x42
  | .rRing => 0x43
  | .rCur => 0x44
  | .gain g => 0x48 + g.index
  | .line l => 0x58 + l.index
  | .rs .rs0 k => 0x70 + k.index
  | .rs .rs1 k => 0x78 + k.index
  | .status => 0x80

/-- The entries of a register file of eight. -/
def bankIndices : List (Fin 8) := [0, 1, 2, 3, 4, 5, 6, 7]

/-- The echo parameters. -/
def EchoParam.all : List EchoParam := [.size, .delay, .fb, .filt]

/-- The gain registers. -/
def GainId.all : List GainId := [.iir, .comb1, .comb2, .comb3, .comb4, .apf1, .apf2, .wall, .lin, .rin]

/-- The address registers. -/
def LineId.all : List LineId :=
  [.mLSAME, .mRSAME, .dLSAME, .dRSAME, .mLDIFF, .mRDIFF, .dLDIFF, .dRDIFF, .mLCOMB1, .mRCOMB1, .mLCOMB2, .mRCOMB2,
   .mLCOMB3, .mRCOMB3, .mLCOMB4, .mRCOMB4, .mLAPF1, .mRAPF1, .mLAPF2, .mRAPF2, .dAPF1, .dAPF2]

/-- The registers of one resampler. -/
def RsField.all : List RsField := [.period, .phase, .lastL, .lastR, .nextL, .nextR, .driving, .driven]

/-- The implemented registers in the order of R36. -/
def Reg.all : List Reg :=
  bankIndices.map .sample ++ [.xfade, .wetdry, .arg0, .arg1] ++
  EchoParam.all.map .ecfg ++ EchoParam.all.map .emod ++ bankIndices.map .firc ++
  [.eRate, .eCap, .eInc, .eLen, .eWidx, .eCand] ++ EchoParam.all.map .eeff ++ bankIndices.map .firh ++
  [.rRate, .rCap, .rPreset, .rRing, .rCur] ++ GainId.all.map .gain ++ LineId.all.map .line ++
  RsField.all.map (.rs .rs0) ++ RsField.all.map (.rs .rs1) ++ [.status]

/-- The register with number `a`; none for a reserved number (R36, V2). -/
def Reg.ofNumber (a : Nat) : Option Reg := Reg.all.find? (fun r => decide (r.number = a))

/-- Access `RW` (R36): exactly the registers WR may write (R217). -/
def Reg.writable : Reg → Bool
  | .sample _ => true
  | .xfade => true
  | .wetdry => true
  | .arg0 => true
  | .arg1 => true
  | .ecfg _ => true
  | .emod _ => true
  | .firc _ => true
  | .eRate => false
  | .eCap => false
  | .eInc => false
  | .eLen => false
  | .eWidx => false
  | .eCand => false
  | .eeff _ => false
  | .firh _ => false
  | .rRate => false
  | .rCap => false
  | .rPreset => false
  | .rRing => false
  | .rCur => false
  | .gain _ => false
  | .line _ => false
  | .rs _ _ => false
  | .status => false

/-- A gain by its name. -/
def gainOf {α : Type} (g : Gains α) : GainId → α
  | .iir => g.iir
  | .comb1 => g.comb1
  | .comb2 => g.comb2
  | .comb3 => g.comb3
  | .comb4 => g.comb4
  | .apf1 => g.apf1
  | .apf2 => g.apf2
  | .wall => g.wall
  | .lin => g.lin
  | .rin => g.rin

/-- An address or length by its name. -/
def lineOf {α : Type} (l : Lines α) : LineId → α
  | .mLSAME => l.mLSAME
  | .mRSAME => l.mRSAME
  | .dLSAME => l.dLSAME
  | .dRSAME => l.dRSAME
  | .mLDIFF => l.mLDIFF
  | .mRDIFF => l.mRDIFF
  | .dLDIFF => l.dLDIFF
  | .dRDIFF => l.dRDIFF
  | .mLCOMB1 => l.mLCOMB1
  | .mRCOMB1 => l.mRCOMB1
  | .mLCOMB2 => l.mLCOMB2
  | .mRCOMB2 => l.mRCOMB2
  | .mLCOMB3 => l.mLCOMB3
  | .mRCOMB3 => l.mRCOMB3
  | .mLCOMB4 => l.mLCOMB4
  | .mRCOMB4 => l.mRCOMB4
  | .mLAPF1 => l.mLAPF1
  | .mRAPF1 => l.mRAPF1
  | .mLAPF2 => l.mLAPF2
  | .mRAPF2 => l.mRAPF2
  | .dAPF1 => l.dAPF1
  | .dAPF2 => l.dAPF2

/-- A resampler register by its name. -/
def Rs.get (r : Rs) : RsField → Word
  | .period => r.period
  | .phase => r.phase
  | .lastL => r.lastL
  | .lastR => r.lastR
  | .nextL => r.nextL
  | .nextR => r.nextR
  | .driving => r.driving
  | .driven => r.driven

/-- A `config` field by its name (R26). -/
def Echo.getCfg (e : Echo) : EchoParam → F
  | .size => e.cfgSize
  | .delay => e.cfgDelay
  | .fb => e.cfgFb
  | .filt => e.cfgFilt

/-- A `modulation` field by its name (R26). -/
def Echo.getMod (e : Echo) : EchoParam → F
  | .size => e.modSize
  | .delay => e.modDelay
  | .fb => e.modFb
  | .filt => e.modFilt

/-- A latched effective parameter by its name (R28). -/
def Echo.getEff (e : Echo) : EchoParam → F
  | .size => e.effSize
  | .delay => e.effDelay
  | .fb => e.effFb
  | .filt => e.effFilt

/-- Write a `config` field. -/
def Echo.setCfg (e : Echo) (p : EchoParam) (v : F) : Echo :=
  match p with
  | .size => { e with cfgSize := v }
  | .delay => { e with cfgDelay := v }
  | .fb => { e with cfgFb := v }
  | .filt => { e with cfgFilt := v }

/-- Write a `modulation` field. -/
def Echo.setMod (e : Echo) (p : EchoParam) (v : F) : Echo :=
  match p with
  | .size => { e with modSize := v }
  | .delay => { e with modDelay := v }
  | .fb => { e with modFb := v }
  | .filt => { e with modFilt := v }

/-- A register as a 32-bit word (R218): s8 and s16 registers sign-extended, STATUS as laid out in R25. -/
def State.readReg (s : State) : Reg → Word
  | .sample i => s.samples.get i
  | .xfade => s.xfade
  | .wetdry => s.wetdry
  | .arg0 => s.arg0
  | .arg1 => s.arg1
  | .ecfg p => s.echo.getCfg p
  | .emod p => s.echo.getMod p
  | .firc i => (s.echo.firc.get i).signExtend 32
  | .eRate => s.echo.rate
  | .eCap => s.echo.cap
  | .eInc => s.echo.inc
  | .eLen => s.echo.len
  | .eWidx => s.echo.widx
  | .eCand => s.echo.cand
  | .eeff p => s.echo.getEff p
  | .firh i => (s.echo.firh.get i).signExtend 32
  | .rRate => s.reverb.rate
  | .rCap => s.reverb.cap
  | .rPreset => s.reverb.preset
  | .rRing => s.reverb.ring
  | .rCur => s.reverb.cur
  | .gain g => gainOf s.reverb.gains g
  | .line l => lineOf s.reverb.lines l
  | .rs u k => (s.rs u).get k
  | .status => s.status.word

/-- What WR does to a writable register (R217): FIRC takes the low eight bits, every other register all 32. Registers
of access `RO` are left alone (WR answers ERR_RO before it gets here). -/
def State.writeReg (s : State) (r : Reg) (v : Word) : State :=
  match r with
  | .sample i => { s with samples := s.samples.set i v }
  | .xfade => { s with xfade := v }
  | .wetdry => { s with wetdry := v }
  | .arg0 => { s with arg0 := v }
  | .arg1 => { s with arg1 := v }
  | .ecfg p => { s with echo := s.echo.setCfg p v }
  | .emod p => { s with echo := s.echo.setMod p v }
  | .firc i => { s with echo := { s.echo with firc := s.echo.firc.set i (v.setWidth 8) } }
  | .eRate => s
  | .eCap => s
  | .eInc => s
  | .eLen => s
  | .eWidx => s
  | .eCand => s
  | .eeff _ => s
  | .firh _ => s
  | .rRate => s
  | .rCap => s
  | .rPreset => s
  | .rRing => s
  | .rCur => s
  | .gain _ => s
  | .line _ => s
  | .rs _ _ => s
  | .status => s

/-- What a writable register reads as after WR wrote `v` (R73, R217): `sext_8(v[7:0])` for FIRC, `v` for the rest. -/
def Reg.stored (r : Reg) (v : Word) : Word :=
  match r with
  | .firc _ => (v.setWidth 8).signExtend 32
  | _ => v

end Sys2Proof.Machine
end

