-- ==== Sys2Proof/Machine/HostAccess.lean ====
section
/-!
DEFINITION. The host access commands (45_host_access R216 to R222): NOP, WR, RD, EBRD, EBWR, WSRD, WSWR.
-/

namespace Sys2Proof.Machine

/-- NOP (R216): admitted while halted. -/
def execNop (s : State) : Result := .next s.respondOk

/-- WR a (R217): halted, reserved number, read-only register, then the write. -/
def execWr (a : Nat) (s : State) : Result :=
  checkLive s <|
  match Reg.ofNumber a with
  | none => .next (s.takeError .range none)
  | some r => check r.writable .readOnly s <| .next (s.writeReg r s.port.wdata).respondOk

/-- RD a (R218): admitted while halted. -/
def execRd (a : Nat) (s : State) : Result :=
  match Reg.ofNumber a with
  | none => .next (s.takeError .range none)
  | some r => .next (s.respond .ok (s.readReg r))

/-- EBRD idx (R219): admitted while halted; the word sign-extended. -/
def execEbrd (idx : Nat) (s : State) : Result :=
  check (decide (idx < s.cfg.ebWords)) .range s <|
  .next (s.respond .ok ((s.echo.eb.read idx).signExtend 32))

/-- EBWR idx (R220): WDATA[31:16] is ignored. -/
def execEbwr (idx : Nat) (s : State) : Result :=
  checkLive s <|
  check (decide (idx < s.cfg.ebWords)) .range s <|
  .next { s with echo := { s.echo with eb := s.echo.eb.write idx (s.port.wdata.setWidth 16) } }.respondOk

/-- WSRD idx (R221): admitted while halted. -/
def execWsrd (idx : Nat) (s : State) : Result :=
  check (decide (idx < s.cfg.wsWords)) .range s <|
  .next (s.respond .ok (s.reverb.ws.read idx))

/-- WSWR idx (R222): all 32 bits stored unchanged. -/
def execWswr (idx : Nat) (s : State) : Result :=
  checkLive s <|
  check (decide (idx < s.cfg.wsWords)) .range s <|
  .next { s with reverb := { s.reverb with ws := s.reverb.ws.write idx s.port.wdata } }.respondOk

end Sys2Proof.Machine
end

