-- ==== Sys2Proof/Machine/Reverb.lean ====
section
/-!
DEFINITION. The reverb model (43_reverb): RINIT, RTICK, RCLR, and `ReverbTick`, which resampler 1 and FRAME also call.
-/

namespace Sys2Proof.Machine

/-- `sc(a)`: an address or length scaled from the design rate (R176). -/
def scaleLine (rate a : Nat) : Nat := a * rate / Config.revDesignRate

/-- The longest footprint of the bundled presets (R173). -/
def longestPreset (ps : List Preset) : Nat := ps.foldl (fun m p => max m p.size) 0

/-- The ring size `M` (R174). -/
def reverbRing (ps : List Preset) (rate : Nat) : Nat := pow2ceil (scaleLine rate (longestPreset ps))

/-- Every scaled address and length of the preset lies below the ring size (R173). -/
def presetFits (p : Preset) (rate ring : Nat) : Bool :=
  p.lines.toList.all (fun a => decide (scaleLine rate a < ring))

/-- What a successful RINIT writes (R173, R175, R176). -/
def Reverb.construct (r : Reverb) (index : Nat) (p : Preset) (rate cap : Word) (ring : Nat) : Reverb :=
  { rate := rate
    cap := cap
    preset := BitVec.ofNat 32 index
    ring := BitVec.ofNat 32 ring
    cur := 0#32
    gains := p.gains.map (fun v => q2f v.toInt)
    lines := p.lines.map (fun a => BitVec.ofNat 32 (scaleLine rate.toNat a))
    ws := r.ws.fill cap.toNat fZero }

/-- What RCLR writes (R185). -/
def Reverb.clear (r : Reverb) : Reverb := { r with ws := r.ws.fill r.cap.toNat fZero }

/-- The physical index of a cursor-relative address (R178). -/
def Reverb.index (r : Reverb) (a : Int) : Nat := ringIndex ((r.cur.toNat : Int) + a) r.ring.toNat

/-- `W(a)` (R178). -/
def Reverb.w (r : Reverb) (a : Int) : F := r.ws.read (r.index a)

/-- `Wset(a, v)` (R178). -/
def Reverb.wset (r : Reverb) (a : Int) (v : F) : Reverb := { r with ws := r.ws.write (r.index a) v }

/-- `Reflect(inp, d, m)` (R182). -/
def Reverb.reflect (r : Reverb) (inp : F) (d m : Word) : Reverb :=
  let x := fadd inp (fmul (r.w d.toNat) r.gains.wall)
  let prev := r.w ((m.toNat : Int) - 1)
  r.wset m.toNat (fadd (fmul (fsub x prev) r.gains.iir) prev)

/-- `Comb(a1, a2, a3, a4)` (R183). -/
def Reverb.comb (r : Reverb) (a1 a2 a3 a4 : Word) : F :=
  fadd (fadd (fadd (fmul r.gains.comb1 (r.w a1.toNat)) (fmul r.gains.comb2 (r.w a2.toNat)))
    (fmul r.gains.comb3 (r.w a3.toNat))) (fmul r.gains.comb4 (r.w a4.toNat))

/-- `Apf(x, m, d, g)` (R184): the model after the write and the stage's result. -/
def Reverb.apf (r : Reverb) (x : F) (m d : Word) (g : F) : Reverb × F :=
  let z := r.w ((m.toNat : Int) - (d.toNat : Int))
  let v := fsub x (fmul g z)
  (r.wset m.toNat v, fadd (fmul v g) z)

/-- The cursor's advance at the end of a tick (R178). -/
def Reverb.advance (r : Reverb) : Reverb :=
  { r with cur := BitVec.ofNat 32 ((r.cur.toNat + 1) % r.ring.toNat) }

/-- `ReverbTick(inL, inR)` (R181): the model after the tick and the output pair. -/
def Reverb.tick (r0 : Reverb) (inL inR : F) : Reverb × F × F :=
  let a := r0.lines
  let lin := fmul r0.gains.lin inL
  let rin := fmul r0.gains.rin inR
  let r1 := r0.reflect lin a.dLSAME a.mLSAME
  let r2 := r1.reflect rin a.dRSAME a.mRSAME
  let l := r2.comb a.mLCOMB1 a.mLCOMB2 a.mLCOMB3 a.mLCOMB4
  let r := r2.comb a.mRCOMB1 a.mRCOMB2 a.mRCOMB3 a.mRCOMB4
  let p1 := r2.apf l a.mLAPF1 a.dAPF1 r0.gains.apf1
  let p2 := p1.1.apf r a.mRAPF1 a.dAPF1 r0.gains.apf1
  let p3 := p2.1.apf p1.2 a.mLAPF2 a.dAPF2 r0.gains.apf2
  let p4 := p3.1.apf p2.2 a.mRAPF2 a.dAPF2 r0.gains.apf2
  let r7 := p4.1.reflect lin a.dRDIFF a.mLDIFF
  let r8 := r7.reflect rin a.dLDIFF a.mRDIFF
  (r8.advance, p3.2, p4.2)

/-- RINIT p (R173). -/
def execRinit (p : Nat) (s : State) : Result :=
  checkLive s <|
  match s.cfg.presets[p]? with
  | none => .next (s.takeError .range none)
  | some preset =>
    let ring := reverbRing s.cfg.presets s.arg0.toNat
    checkFatal (decide (s.arg0.toNat ≠ 0) && decide (s.arg1.toNat ≠ 0) && decide (s.arg1.toNat ≤ s.cfg.wsWords))
      .param .reverb s <|
    checkFatal (decide (ring ≤ s.arg1.toNat) && presetFits preset s.arg0.toNat ring) .capacity .reverb s <|
    .next { s with
      reverb := s.reverb.construct p preset s.arg0 s.arg1 ring
      status := s.status.setReady .reverb true }.respondOk

/-- RCLR (R185). -/
def execRclr (s : State) : Result :=
  checkLive s <|
  check s.status.rReady .notReady s <|
  requireRam (decide (s.reverb.cap.toNat ≤ s.cfg.wsWords)) .wsIndex <|
  .next { s with reverb := s.reverb.clear }.respondOk

/-- RTICK (R180). -/
def execRtick (s : State) : Result :=
  checkLive s <|
  check s.status.rReady .notReady s <|
  requireRam s.reverbRingOk .wsIndex <|
  let r := s.reverb.tick s.samples.r0 s.samples.r1
  .next (({ s with reverb := r.1 }.setReverbOut r.2.1 r.2.2).respondOk)

end Sys2Proof.Machine
end

