-- ==== Sys2Proof/Machine/Resampler.lean ====
section
/-!
DEFINITION. The fractional-phase resampler (41_resampler): `RsProcess` over any producer, RSINIT, RSTICK, RSCLR.
-/

namespace Sys2Proof.Machine

/-- The state after RSINIT and what RSCLR zeroes: phase and both held pairs (R121, R129). -/
def Rs.clear (r : Rs) : Rs :=
  { r with phase := fZero, lastL := fZero, lastR := fZero, nextL := fZero, nextR := fZero }

/-- The period of R122: driving ticks per native tick. -/
def rsPeriod (driving driven : Word) : F := fdiv (u32ToF driving.toNat) (u32ToF driven.toNat)

/-- What a successful RSINIT writes (R121). -/
def Rs.construct (driving driven : Word) : Rs :=
  { period := rsPeriod driving driven, phase := fZero
    lastL := fZero, lastR := fZero, nextL := fZero, nextR := fZero
    driving := driving, driven := driven }

/-- The rate check of R121, in unbounded integers. -/
def rsRatesOk (driving driven : Nat) : Bool :=
  decide (driving ≠ 0) && decide (driven ≠ 0) && decide (driving ≤ Config.rsMaxRatio * driven) &&
  decide (driven ≤ Config.rsMaxRatio * driving)

/-- One pass of the loop of R125: a producer call's output shifts in and the phase drops by one period. -/
def Rs.shift (r : Rs) (nL nR : F) : Rs :=
  { r with lastL := r.nextL, lastR := r.nextR, nextL := nL, nextR := nR, phase := fsub r.phase r.period }

/-- The loop of R125 with `fuel` producer calls left; none if the bound is hit (R127). -/
def rsLoop {σ : Type} (producer : σ → F → F → σ × F × F) (inL inR : F) : Nat → Rs → σ → Option (Rs × σ)
  | 0, r, m => if fle r.period r.phase then none else some (r, m)
  | fuel + 1, r, m =>
    if fle r.period r.phase then
      let p := producer m inL inR
      rsLoop producer inL inR fuel (r.shift p.2.1 p.2.2) p.1
    else some (r, m)

/-- The interpolated output pair (R125). DESIGN CHOICE, unsafe (log 11): R128 item 2 and R269 call the output zero until the
second producer call; R125, the trace of R130 and vectors 3.3 to 3.6 interpolate from the first call on, and this
follows them. -/
def Rs.output (r : Rs) : F × F :=
  let t := fdiv r.phase r.period
  (lerp r.lastL r.nextL t, lerp r.lastR r.nextR t)

/-- `RsProcess(rs, producer, inL, inR)` (R125): the instance and the model after the tick and the output pair; none is
Watchdog. -/
def rsProcess {σ : Type} (producer : σ → F → F → σ × F × F) (r : Rs) (m : σ) (inL inR : F) :
    Option (Rs × σ × F × F) :=
  match rsLoop producer inL inR Config.rsFuel { r with phase := fadd r.phase fOne } m with
  | none => none
  | some (r', m') => some (r', m', r'.output.1, r'.output.2)

/-- One driving tick of resampler u on its own producer (R120, R124): EchoTick for 0, ReverbTick for 1; none is
Watchdog. Writes the instance, the model and the output pair. -/
def State.rsTick (s : State) (u : RsId) : Option State :=
  match u with
  | .rs0 =>
    match rsProcess Echo.tick s.rs0 s.echo s.samples.r0 s.samples.r1 with
    | none => none
    | some (r, e, outL, outR) => some ({ s with rs0 := r, echo := e }.setRsOut .rs0 outL outR)
  | .rs1 =>
    match rsProcess Reverb.tick s.rs1 s.reverb s.samples.r0 s.samples.r1 with
    | none => none
    | some (r, v, outL, outR) => some ({ s with rs1 := r, reverb := v }.setRsOut .rs1 outL outR)

/-- The unit that resampler u drives (R120). -/
def rsModel : RsId → UnitId
  | .rs0 => .echo
  | .rs1 => .reverb

/-- Resampler u and its model are both constructed (R124). -/
def State.rsReady (s : State) (u : RsId) : Bool := s.status.ready (.rs u) && s.status.ready (rsModel u)

/-- The ring of the model that resampler u drives lies inside its RAM (log 7). -/
def State.modelRingOk (s : State) (u : RsId) : Bool :=
  match u with
  | .rs0 => s.echoRingOk
  | .rs1 => s.reverbRingOk

/-- The fault of a broken ring of the model that resampler u drives (log 7). -/
def modelFault (u : RsId) : Fault :=
  match u with
  | .rs0 => .ebIndex
  | .rs1 => .wsIndex

/-- RSINIT u (R121). -/
def execRsinit (u : RsId) (s : State) : Result :=
  checkLive s <|
  checkFatal (rsRatesOk s.arg0.toNat s.arg1.toNat) .param (.rs u) s <|
  .next { s.setRs u (Rs.construct s.arg0 s.arg1) with status := s.status.setReady (.rs u) true }.respondOk

/-- RSCLR u (R129). -/
def execRsclr (u : RsId) (s : State) : Result :=
  checkLive s <|
  check (s.status.ready (.rs u)) .notReady s <|
  .next (s.setRs u (s.rs u).clear).respondOk

/-- RSTICK u (R124). -/
def execRstick (u : RsId) (s : State) : Result :=
  checkLive s <|
  check (s.rsReady u) .notReady s <|
  requireRam (s.modelRingOk u) (modelFault u) <|
  match s.rsTick u with
  | none => .next (s.takeWatchdog u false)
  | some t => .next t.respondOk

end Sys2Proof.Machine
end

