-- ==== Sys2Proof/Machine/Mixer.lean ====
section
/-!
DEFINITION. The mixer and the frame data flow (44_mixer): MIX and FRAME.
-/

namespace Sys2Proof.Machine

/-- One channel of `Mix` (R202), with clamped positions f and w: crossfade, then wet/dry blend. -/
def mixChannel (dry echoOut reverbOut f w : F) : F := lerp dry (xfade echoOut reverbOut f) w

/-- `Mix` applied to the state (R202): S6 and S7 from S0..S5, XFADE and WETDRY. -/
def State.mix (s : State) : State :=
  let f := clamp01 s.xfade
  let w := clamp01 s.wetdry
  s.setFrameOut (mixChannel s.samples.r0 s.samples.r2 s.samples.r4 f w)
    (mixChannel s.samples.r1 s.samples.r3 s.samples.r5 f w)

/-- MIX (R201): needs no unit. -/
def execMix (s : State) : Result :=
  checkLive s <| .next s.mix.respondOk

/-- FRAME (R205): RSTICK 0, RSTICK 1 and MIX as one command with one admission check. -/
def execFrame (s : State) : Result :=
  checkLive s <|
  check (s.status.eReady && s.status.rReady && s.status.rs0Ready && s.status.rs1Ready) .notReady s <|
  requireRam s.echoRingOk .ebIndex <|
  requireRam s.reverbRingOk .wsIndex <|
  match s.rsTick .rs0 with
  | none => .next (s.takeWatchdog .rs0 true)
  | some s1 =>
    match s1.rsTick .rs1 with
    | none => .next (s1.takeWatchdog .rs1 true)
    | some s2 => .next s2.mix.respondOk

end Sys2Proof.Machine
end

