-- ==== Sys2Proof/Machine/Dispatch.lean ====
section
/-!
DEFINITION. The one place where a command meets its meaning: one arm per row of 30_encoding R74.
-/

namespace Sys2Proof.Machine

def exec (i : Instr) (s : State) : Host.Outcome State Fault Refusal :=
  match i with
  | .nop => Sys2Proof.Machine.execNop s
  | .wr a => Sys2Proof.Machine.execWr a s
  | .rd a => Sys2Proof.Machine.execRd a s
  | .ebrd idx => Sys2Proof.Machine.execEbrd idx s
  | .ebwr idx => Sys2Proof.Machine.execEbwr idx s
  | .wsrd idx => Sys2Proof.Machine.execWsrd idx s
  | .wswr idx => Sys2Proof.Machine.execWswr idx s
  | .einit => Sys2Proof.Machine.execEinit s
  | .rinit p => Sys2Proof.Machine.execRinit p s
  | .rsinit u => Sys2Proof.Machine.execRsinit u s
  | .eclr => Sys2Proof.Machine.execEclr s
  | .rclr => Sys2Proof.Machine.execRclr s
  | .rsclr u => Sys2Proof.Machine.execRsclr u s
  | .etick => Sys2Proof.Machine.execEtick s
  | .rtick => Sys2Proof.Machine.execRtick s
  | .rstick u => Sys2Proof.Machine.execRstick u s
  | .mix => Sys2Proof.Machine.execMix s
  | .frame => Sys2Proof.Machine.execFrame s

end Sys2Proof.Machine
end

