-- ==== Sys2Proof/WellFormed.lean ====
section
/-!
DEFINITION. When a command is well formed: each operand fits the field that carries it (30_encoding R72, R73).
-/

namespace Sys2Proof

/-- A register number fits the 8-bit field `a` (R72, format R). -/
def regFieldOk (a : Nat) : Bool := decide (a < 2 ^ 8)

/-- A preset index fits the 8-bit field `p` (R72, format P). -/
def presetFieldOk (p : Nat) : Bool := decide (p < 2 ^ 8)

/-- A word index fits the 24-bit field `idx` (R72, format M). -/
def indexFieldOk (idx : Nat) : Bool := decide (idx < 2 ^ 24)

/-- Every operand fits its field. A field value that names nothing (a reserved register number, an index beyond the
RAM, a preset index ≥ NPRESET) is still well formed: its command answers an error (R77). -/
def Instr.wellFormed : Instr → Bool
  | .nop => true
  | .wr a => regFieldOk a
  | .rd a => regFieldOk a
  | .ebrd idx => indexFieldOk idx
  | .ebwr idx => indexFieldOk idx
  | .wsrd idx => indexFieldOk idx
  | .wswr idx => indexFieldOk idx
  | .einit => true
  | .rinit p => presetFieldOk p
  | .rsinit _ => true
  | .eclr => true
  | .rclr => true
  | .rsclr _ => true
  | .etick => true
  | .rtick => true
  | .rstick _ => true
  | .mix => true
  | .frame => true

end Sys2Proof
end

