-- ==== Sys2Proof/Decode.lean ====
section
/-!
DEFINITION. The decoder (total on 32-bit words, 30_encoding R74 to R77), the encoder, and the opcode table of R74.
-/

namespace Sys2Proof

/-- The instance number of a resampler, as `u` carries it (R72). -/
def RsId.number : RsId → Nat
  | .rs0 => 0
  | .rs1 => 1

/-- Format Z (R72): bits 23:0 must be zero. -/
def decodeZ (low : Nat) (i : Instr) : Option Instr :=
  if low = 0 then some i else none

/-- Formats R and P (R72): the operand in bits 23:16, bits 15:0 must be zero. -/
def decodeR (low : Nat) (mk : Nat → Instr) : Option Instr :=
  if low % 2 ^ 16 = 0 then some (mk (low / 2 ^ 16)) else none

/-- Format U (R72): the instance in bit 16, bits 23:17 and 15:0 must be zero. -/
def decodeU (low : Nat) (mk : RsId → Instr) : Option Instr :=
  if low = 0 then some (mk .rs0) else if low = 2 ^ 16 then some (mk .rs1) else none

/-- Format M (R72): a 24-bit index, no bit that must be zero. -/
def decodeM (low : Nat) (mk : Nat → Instr) : Option Instr :=
  some (mk low)

/-- The command whose opcode (bits 31:24) is `op` and whose bits 23:0 are `low`; none for an illegal word
(R74, R77). -/
def decodeFields (op low : Nat) : Option Instr :=
  match op with
  | 0x00 => decodeZ low .nop
  | 0x01 => decodeR low .wr
  | 0x02 => decodeR low .rd
  | 0x04 => decodeM low .ebrd
  | 0x05 => decodeM low .ebwr
  | 0x06 => decodeM low .wsrd
  | 0x07 => decodeM low .wswr
  | 0x10 => decodeZ low .einit
  | 0x11 => decodeR low .rinit
  | 0x12 => decodeU low .rsinit
  | 0x18 => decodeZ low .eclr
  | 0x19 => decodeZ low .rclr
  | 0x1A => decodeU low .rsclr
  | 0x20 => decodeZ low .etick
  | 0x21 => decodeZ low .rtick
  | 0x22 => decodeU low .rstick
  | 0x23 => decodeZ low .mix
  | 0x24 => decodeZ low .frame
  | _ => none

/-- The decoder: total, state-free, none exactly for the illegal words of R77 (R76). -/
def decode (w : Word) : Option Instr :=
  decodeFields (w.toNat / 2 ^ 24) (w.toNat % 2 ^ 24)

/-- The opcode of a command (R74). -/
def Instr.opcode : Instr → Nat
  | .nop => 0x00
  | .wr _ => 0x01
  | .rd _ => 0x02
  | .ebrd _ => 0x04
  | .ebwr _ => 0x05
  | .wsrd _ => 0x06
  | .wswr _ => 0x07
  | .einit => 0x10
  | .rinit _ => 0x11
  | .rsinit _ => 0x12
  | .eclr => 0x18
  | .rclr => 0x19
  | .rsclr _ => 0x1A
  | .etick => 0x20
  | .rtick => 0x21
  | .rstick _ => 0x22
  | .mix => 0x23
  | .frame => 0x24

/-- Bits 23:0 of a command word: the operand in its field, every must-be-zero bit 0 (R72, R73). -/
def Instr.operandBits : Instr → Nat
  | .nop => 0
  | .wr a => a * 2 ^ 16
  | .rd a => a * 2 ^ 16
  | .ebrd idx => idx
  | .ebwr idx => idx
  | .wsrd idx => idx
  | .wswr idx => idx
  | .einit => 0
  | .rinit p => p * 2 ^ 16
  | .rsinit u => u.number * 2 ^ 16
  | .eclr => 0
  | .rclr => 0
  | .rsclr u => u.number * 2 ^ 16
  | .etick => 0
  | .rtick => 0
  | .rstick u => u.number * 2 ^ 16
  | .mix => 0
  | .frame => 0

/-- The command word of a well-formed command (R72, R74). -/
def encode (i : Instr) : Word :=
  BitVec.ofNat 32 (i.opcode * 2 ^ 24 + i.operandBits)

/-- The `match` and `mask` of a command's row of R74's table. -/
def Instr.tableRow : Instr → Word × Word
  | .nop => (0x00000000#32, 0xFFFFFFFF#32)
  | .wr _ => (0x01000000#32, 0xFF00FFFF#32)
  | .rd _ => (0x02000000#32, 0xFF00FFFF#32)
  | .ebrd _ => (0x04000000#32, 0xFF000000#32)
  | .ebwr _ => (0x05000000#32, 0xFF000000#32)
  | .wsrd _ => (0x06000000#32, 0xFF000000#32)
  | .wswr _ => (0x07000000#32, 0xFF000000#32)
  | .einit => (0x10000000#32, 0xFFFFFFFF#32)
  | .rinit _ => (0x11000000#32, 0xFF00FFFF#32)
  | .rsinit _ => (0x12000000#32, 0xFFFEFFFF#32)
  | .eclr => (0x18000000#32, 0xFFFFFFFF#32)
  | .rclr => (0x19000000#32, 0xFFFFFFFF#32)
  | .rsclr _ => (0x1A000000#32, 0xFFFEFFFF#32)
  | .etick => (0x20000000#32, 0xFFFFFFFF#32)
  | .rtick => (0x21000000#32, 0xFFFFFFFF#32)
  | .rstick _ => (0x22000000#32, 0xFFFEFFFF#32)
  | .mix => (0x23000000#32, 0xFFFFFFFF#32)
  | .frame => (0x24000000#32, 0xFFFFFFFF#32)

/-- CMD of a transaction laid out as `nbits` bits `w`: bits 31:0, every bit at or above `nbits` zero. -/
def tableCmd (nbits w : Nat) : Word := BitVec.ofNat 32 (w % 2 ^ nbits)

/-- WDATA of that transaction: the second word, bits 63:32 (R70, R78: a line is the pair CMD, WDATA), zero where
`nbits` gives it no bits (log 10). -/
def tableWdata (nbits w : Nat) : Word := BitVec.ofNat 32 (w % 2 ^ nbits / 2 ^ 32)

/-- The command the decoder reads from a transaction's bits. Decoding reads CMD alone (R70, R76). -/
def decodeTableWord (nbits w : Nat) : Option Instr := decode (tableCmd nbits w)

end Sys2Proof
end

