-- ==== Sys2Proof/Machine/Fetch.lean ====
section
/-!
DEFINITION. How the CORE takes what the host presents (00_scope R7, 10_state R24, 30_encoding R70): one transaction or
one reset a step, decoding before every other check (60_exceptions R238 step 1).
-/

namespace Sys2Proof.Machine

/-- The state with the next event taken off and a transaction's two words on the port. -/
def State.present (s : State) (rest : List HostEvent) (cmd wdata : Word) : State :=
  { s with pending := rest, port := { s.port with cmd := cmd, wdata := wdata } }

/-- The command to run and the state to run it in, or the whole step where no command runs: nothing presented (the
CORE waits: log 1), a reset (R260), an illegal word (R77). -/
def State.fetch (s : State) : State ⊕ (Instr × State) :=
  match s.pending with
  | [] => .inl s
  | .reset :: rest => .inl { s with pending := rest }.hardReset
  | .transaction cmd wdata :: rest =>
    let t := s.present rest cmd wdata
    match decode cmd with
    | none => .inl (t.takeError .illegal none)
    | some i => .inr (i, t)

/-- The transaction of `nbits` bits `w` presented next, before all the host still presents (log 1, log 10). -/
def State.presentWord (s : State) (nbits w : Nat) : State :=
  { s with pending := .transaction (tableCmd nbits w) (tableWdata nbits w) :: s.pending }

end Sys2Proof.Machine
end

