-- ==== Sys2Proof/Machine/Step.lean ====
section
/-!
DEFINITION. One step of the CORE: one event of the host, a transaction being one atomic command (20_memory R56).
-/

namespace Sys2Proof.Machine

/-- One step: fetch, and run the command that was decoded. -/
def step (s : State) : Host.Outcome State Fault Refusal :=
  match s.fetch with
  | .inl t => .next t
  | .inr (i, t) => exec i t

/-- `s` with the transaction whose bits are `w` presented next (log 1, log 10). -/
def State.withFetchWord (s : State) (nbits w : Nat) : State := s.presentWord nbits w

end Sys2Proof.Machine
end

