-- ==== Sys2Proof/Safety.lean ====
section
/-!
DEFINITION. The terms claims about the CORE are stated in: reading one word of a RAM, what a command answered, the frame of
a command (what it leaves unchanged), and the invariants of 10_state R28, R30, R32, R33 and 60_exceptions R240.
-/

namespace Sys2Proof.Machine

/-! ## Observation -/

/-- One word of EB as EBRD reads it (R52). -/
def State.readEb (s : State) (i : Nat) : Half := s.echo.eb.read i

/-- One word of WS as WSRD reads it (R53). -/
def State.readWs (s : State) (i : Nat) : Word := s.reverb.ws.read i

/-- The transaction was answered with response `r` and RDATA `v` (R70, R236). -/
def State.Answered (t : State) (r : Response) (v : Word) : Prop :=
  t.port.resp = BitVec.ofNat 4 r.code ∧ t.port.rdata = v

/-- `t` is `s` but for the answer on the port (R237). -/
def OnlyAnswers (s t : State) : Prop :=
  t = { s with port := { s.port with resp := t.port.resp, rdata := t.port.rdata } }

/-- The frame of a command: every register outside `regs`, every EB word outside `eb`, every WS word outside `ws`, and
the configuration, the coming events, the presented words and the count of free values are unchanged. -/
def Frame (s t : State) (regs : Reg → Prop) (eb ws : Nat → Prop) : Prop :=
  (∀ r, ¬ regs r → t.readReg r = s.readReg r) ∧
  (∀ i, ¬ eb i → t.readEb i = s.readEb i) ∧
  (∀ i, ¬ ws i → t.readWs i = s.readWs i) ∧
  t.cfg = s.cfg ∧ t.pending = s.pending ∧ t.port.cmd = s.port.cmd ∧ t.port.wdata = s.port.wdata ∧
  t.freeCount = s.freeCount

/-- No register, no word. -/
def nothing {α : Type} (_ : α) : Prop := False

/-- The registers EINIT writes (R141): the echo status and FIR registers and STATUS. -/
def Reg.writtenByEinit : Reg → Prop
  | .eRate | .eCap | .eInc | .eLen | .eWidx | .eCand | .eeff _ | .firc _ | .firh _ | .status => True
  | _ => False

/-- The registers ETICK writes (R146). -/
def Reg.writtenByEtick : Reg → Prop
  | .sample i => i = 2 ∨ i = 3
  | .eLen | .eWidx | .eCand | .eeff _ | .firh _ => True
  | _ => False

/-- The registers RINIT writes (R173): the reverb registers and STATUS. -/
def Reg.writtenByRinit : Reg → Prop
  | .rRate | .rCap | .rPreset | .rRing | .rCur | .gain _ | .line _ | .status => True
  | _ => False

/-- The registers RTICK writes (R180). -/
def Reg.writtenByRtick : Reg → Prop
  | .sample i => i = 4 ∨ i = 5
  | .rCur => True
  | _ => False

/-- The registers RSINIT u writes (R121): the instance's eight and STATUS. -/
def Reg.writtenByRsinit (u : RsId) : Reg → Prop
  | .rs v _ => v = u
  | .status => True
  | _ => False

/-- The registers RSCLR u writes (R129): phase and both held pairs. -/
def Reg.writtenByRsclr (u : RsId) : Reg → Prop
  | .rs v k => v = u ∧ k ≠ .period ∧ k ≠ .driving ∧ k ≠ .driven
  | _ => False

/-- The registers a driving tick of resampler u writes (R124): phase and held pairs, the output pair, and what its
producer's ticks write except their own output registers. -/
def Reg.writtenByRstick (u : RsId) : Reg → Prop
  | .rs v k => v = u ∧ k ≠ .period ∧ k ≠ .driving ∧ k ≠ .driven
  | .sample i => (u = .rs0 ∧ (i = 2 ∨ i = 3)) ∨ (u = .rs1 ∧ (i = 4 ∨ i = 5))
  | .eLen | .eWidx | .eCand | .eeff _ | .firh _ => u = .rs0
  | .rCur => u = .rs1
  | _ => False

/-- The registers FRAME writes (R205): S2 to S7 and what both driving ticks write. -/
def Reg.writtenByFrame : Reg → Prop
  | .sample i => 2 ≤ i.val
  | r => r.writtenByRstick .rs0 ∨ r.writtenByRstick .rs1

/-- The registers a watchdog in resampler u leaves open (U5), and STATUS: the instance, its producer's model, the output
pair, and S6, S7 for FRAME. -/
def Reg.openAfterWatchdog (u : RsId) (isFrame : Bool) : Reg → Prop
  | .rs v _ => v = u
  | .sample i =>
    (u = .rs0 ∧ (i = 2 ∨ i = 3)) ∨ (u = .rs1 ∧ (i = 4 ∨ i = 5)) ∨ (isFrame = true ∧ (i = 6 ∨ i = 7))
  | .ecfg _ | .emod _ | .firc _ | .eRate | .eCap | .eInc | .eLen | .eWidx | .eCand | .eeff _ | .firh _ => u = .rs0
  | .rRate | .rCap | .rPreset | .rRing | .rCur | .gain _ | .line _ => u = .rs1
  | .status => True
  | _ => False

/-- The eight physical WS indices one ReverbTick writes (R181). -/
def Reverb.writeIndices (r : Reverb) : List Nat :=
  [r.index r.lines.mLSAME.toNat, r.index r.lines.mRSAME.toNat, r.index r.lines.mLAPF1.toNat,
   r.index r.lines.mRAPF1.toNat, r.index r.lines.mLAPF2.toNat, r.index r.lines.mRAPF2.toNat,
   r.index r.lines.mLDIFF.toNat, r.index r.lines.mRDIFF.toNat]

/-! ## Native ticks and the resampler's calls -/

/-- The echo model after n native ticks with one input pair (R148). -/
def Echo.afterTicks (e : Echo) (inL inR : F) (n : Nat) : Echo := (fun m => (m.tick inL inR).1)^[n] e

/-- The output pair of the echo model's native tick number k, counted from 0. -/
def Echo.outputAt (e : Echo) (inL inR : F) (k : Nat) : F × F := ((e.afterTicks inL inR k).tick inL inR).2

/-- The reverb model after n native ticks with one input pair (R181). -/
def Reverb.afterTicks (v : Reverb) (inL inR : F) (n : Nat) : Reverb := (fun m => (m.tick inL inR).1)^[n] v

/-- The output pair of the reverb model's native tick number k, counted from 0. -/
def Reverb.outputAt (v : Reverb) (inL inR : F) (k : Nat) : F × F := ((v.afterTicks inL inR k).tick inL inR).2

/-- The phase inside a driving tick after k producer calls: one advance by 1.0, then k rounded subtractions of the
period (R125). -/
def Rs.phaseAfter (r : Rs) (k : Nat) : F := (fun p => fsub p r.period)^[k] (fadd r.phase fOne)

/-- `r'` is what a driving tick with exactly n producer calls, whose outputs are `out 0`, `out 1`, .., leaves of `r`
(R125): the phase reached the period before each of the n calls and does not after the last; the newer pair is the last
call's output and the older pair the one before it, which for the first call is the pair that was newest at entry. -/
def Rs.FollowsCalls (r r' : Rs) (out : Nat → F × F) (n : Nat) : Prop :=
  (∀ k, k < n → fle r.period (r.phaseAfter k) = true) ∧
  r'.phase = r.phaseAfter n ∧ fle r.period r'.phase = false ∧
  (r'.nextL, r'.nextR) = (if n = 0 then (r.nextL, r.nextR) else out (n - 1)) ∧
  (r'.lastL, r'.lastR) =
    (if n = 0 then (r.lastL, r.lastR) else if n = 1 then (r.nextL, r.nextR) else out (n - 2)) ∧
  r'.period = r.period ∧ r'.driving = r.driving ∧ r'.driven = r.driven

/-! ## Rounding -/

/-- A NaN with bit 22 set (R90). -/
def fIsQuietNaN (x : F) : Bool := fIsNaN x && x.getLsbD 22

/-- `z` is the real number `exact / scale` (in units of 2^-149) rounded once to binary32, to nearest with ties to even
(R90), with sign bit `sign`: finite exactly below 2^128 − 2^103 in magnitude, the infinity elsewhere; if finite, no
finite value is nearer, and one equally near has another significand only if that of `z` is even. -/
def RoundsTo (z : F) (sign : Bool) (exact scale : Int) : Prop :=
  let d (v : F) : Int := |fReal v * scale - exact|
  fSign z = sign ∧
  (fIsFinite z = true ↔ |exact| < 2 ^ 252 * (2 ^ 25 - 1) * |scale|) ∧
  (fIsFinite z = false → fIsInf z = true) ∧
  (fIsFinite z = true → ∀ v, fIsFinite v = true →
    d z ≤ d v ∧ (d z = d v → fReal z = fReal v ∨ z.toNat % 2 = 0))

/-! ## Invariants -/

/-- Both RAMs are in canonical form and hold no word beyond their physical size (R52, R53, R149, R179). -/
def State.MemoryOk (s : State) : Prop :=
  s.echo.eb.wf = true ∧ s.echo.eb.within s.cfg.ebWords = true ∧
  s.reverb.ws.wf = true ∧ s.reverb.ws.within s.cfg.wsWords = true

/-- The invariant of R28. -/
def State.EchoOk (s : State) : Prop :=
  1 ≤ s.echo.len.toNat ∧ s.echo.len.toNat ≤ s.echo.cap.toNat ∧ s.echo.cap.toNat ≤ s.cfg.ebWords ∧
  s.echo.widx.toNat < s.echo.len.toNat ∧ 1 ≤ s.echo.inc.toNat

/-- The invariant of R30 and R32: the ring is a power of two inside the capacity and the RAM, the cursor and every
address lie in the ring. -/
def State.ReverbOk (s : State) : Prop :=
  (∃ k, s.reverb.ring.toNat = 2 ^ k) ∧ s.reverb.ring.toNat ≤ s.reverb.cap.toNat ∧
  s.reverb.cap.toNat ≤ s.cfg.wsWords ∧ s.reverb.cur.toNat < s.reverb.ring.toNat ∧
  ∀ a ∈ s.reverb.lines.toList, a.toNat < s.reverb.ring.toNat

/-- The invariant of R33: 2^-8 ≤ period ≤ 2^8 and 0 ≤ phase < period. -/
def Rs.InRange (r : Rs) : Prop :=
  fle 0x3B800000#32 r.period = true ∧ fle r.period 0x43800000#32 = true ∧
  fle fZero r.phase = true ∧ flt r.phase r.period = true

/-- While FATAL = 0, a constructed model satisfies its invariant (R28, R30, R32). A fatal watchdog leaves the model
open (U5), and no tick runs after it. -/
def State.RingsOk (s : State) : Prop :=
  s.status.fatal = true ∨
  ((s.status.eReady = true → s.EchoOk) ∧ (s.status.rReady = true → s.ReverbOk))

/-- While FATAL = 0, a constructed resampler satisfies R33. -/
def State.ResamplersOk (s : State) : Prop :=
  s.status.fatal = true ∨ ∀ u, s.status.ready (.rs u) = true → (s.rs u).InRange

/-- FCODE is 0 while FATAL = 0, and the code of a fatal error while FATAL = 1 (R25, R240). -/
def State.StatusOk (s : State) : Prop :=
  (s.status.fatal = false → s.status.fcode = 0#8) ∧
  (s.status.fatal = true → s.status.fcode = 5#8 ∨ s.status.fcode = 6#8 ∨ s.status.fcode = 7#8)

/-- Every delay-line word the echo model can read is 0 and the filter history is 0: what ECLR leaves (R155, R156). -/
def State.EchoSilent (s : State) : Prop :=
  (∀ i, i < s.echo.cap.toNat → s.readEb i = 0#16) ∧ s.echo.firh = Bank.replicate 0#16

/-- A value that is a zero of either sign. -/
def IsZero (x : F) : Prop := fMag x = 0

/-- Every word of the reverb ring is a zero (R187). -/
def State.ReverbSilent (s : State) : Prop :=
  ∀ i, i < s.reverb.ring.toNat → IsZero (s.readWs i)

/-- Every gain is finite, as every preset's are (R175). -/
def State.GainsFinite (s : State) : Prop :=
  ∀ g, fIsFinite (gainOf s.reverb.gains g) = true

/-- Two states that differ in nothing but the filter-blend parameter and its latch (R154). -/
def SameButFilterBlend (s t : State) : Prop :=
  t = { s with echo := { s.echo with
          cfgFilt := t.echo.cfgFilt, modFilt := t.echo.modFilt, effFilt := t.echo.effFilt } }

end Sys2Proof.Machine
end

