-- ==== Sys2Proof/Certificates/Slice0/Obligations.lean ====
section
/-!
DEFINITION. The statements about the CORE, each from the numbered rules of spec/ that its docstring names.
-/

open Sys2Proof Sys2Proof.Machine

/-! ## Encoding -/

/-- R72 to R74, R76: decoding the word of a well-formed command gives the command back. -/
def Obligations.EncodeThenDecodeGivesCommand : Prop :=
  ∀ i : Instr, i.wellFormed = true → decode (encode i) = some i

/-- R72, R73, R76: a word that decodes is the word of its command, so no bit of it is dropped. -/
def Obligations.DecodedWordIsItsEncoding : Prop :=
  ∀ (w : Word) (i : Instr), decode w = some i → i.wellFormed = true ∧ encode i = w

/-- R74: a word is a command of a row exactly when it matches the row under its mask, and a word that matches no row is
illegal. -/
def Obligations.DecodeMatchesTableRows : Prop :=
  (∀ (w : Word) (i : Instr),
    w &&& i.tableRow.2 = i.tableRow.1 ↔ ∃ j, decode w = some j ∧ j.tableRow = i.tableRow) ∧
  (∀ w : Word, (∀ i : Instr, w &&& i.tableRow.2 ≠ i.tableRow.1) → decode w = none)

/-- R78: words written out from the formats of R72 decode to the commands they stand for. -/
def Obligations.SpecWordsDecode : Prop :=
  decode 0x00000000#32 = some .nop ∧
  decode 0x01100000#32 = some (.wr 0x10) ∧
  decode 0x02060000#32 = some (.rd 6) ∧
  decode 0x04000010#32 = some (.ebrd 16) ∧
  decode 0x11030000#32 = some (.rinit 3) ∧
  decode 0x12010000#32 = some (.rsinit .rs1) ∧
  decode 0x22010000#32 = some (.rstick .rs1) ∧
  decode 0x24000000#32 = some .frame

/-- R77: the illegal words are those with an unused opcode or a must-be-zero bit set; an illegal word answers
ERR_ILLEGAL with no other change than the transaction itself, also while halted; and no command that decodes answers
ERR_ILLEGAL, whatever its operand value. -/
def Obligations.IllegalWordsAnswerIllegal : Prop :=
  (∀ w : Word,
    let op := w.toNat / 2 ^ 24
    let low := w.toNat % 2 ^ 24
    decode w = none ↔
      (op = 0x03 ∨ (0x08 ≤ op ∧ op ≤ 0x0F) ∨ (0x13 ≤ op ∧ op ≤ 0x17) ∨ (0x1B ≤ op ∧ op ≤ 0x1F) ∨ 0x25 ≤ op) ∨
      (op ∈ [0x00, 0x10, 0x18, 0x19, 0x20, 0x21, 0x23, 0x24] ∧ low ≠ 0) ∨
      (op ∈ [0x01, 0x02, 0x11] ∧ low % 2 ^ 16 ≠ 0) ∨
      (op ∈ [0x12, 0x1A, 0x22] ∧ low ≠ 0 ∧ low ≠ 2 ^ 16)) ∧
  (∀ (s : State) (rest : List HostEvent) (c w : Word),
    s.pending = .transaction c w :: rest → decode c = none →
    step s = .next { s with pending := rest, port := { cmd := c, wdata := w, resp := 1#4, rdata := 0#32 } }) ∧
  (∀ (i : Instr) (s t : State), exec i s = .next t → t.port.resp ≠ 1#4)

/-! ## The step and reset -/

/-- R7, R24, R70: a step on a presented word that decodes runs the decoded command on the state with that transaction
taken off the host's list and its two words on the port. -/
def Obligations.PresentedCommandIsRun : Prop :=
  ∀ (s : State) (rest : List HostEvent) (c w : Word) (i : Instr),
    s.pending = .transaction c w :: rest → decode c = some i →
    step s = exec i { s with pending := rest, port := { s.port with cmd := c, wdata := w } }

/-- R37: in the reset state every register reads 0 except FIRC0, which reads 0x7F; so STATUS is 0, no unit is constructed
and FATAL is 0. The words of both RAMs are unspecified: nothing is said of them. -/
def Obligations.ResetRegistersHoldSpecValues : Prop :=
  (∀ r : Reg, State.reset.readReg r = if r = .firc 0 then 0x0000007F#32 else 0x00000000#32) ∧
  (∀ u : UnitId, State.reset.status.ready u = false) ∧ State.reset.status.fatal = false

/-- R260: a reset the host asserts gives every register its reset value and forgets both RAMs. That the configuration and
the host's later events stay is the model's (logs 1, 2). -/
def Obligations.ResetEventRestoresRegisters : Prop :=
  ∀ (s : State) (rest : List HostEvent), s.pending = .reset :: rest →
    ∃ t, step s = .next t ∧
      (∀ r : Reg, t.readReg r = if r = .firc 0 then 0x0000007F#32 else 0x00000000#32) ∧
      t.status = Status.reset ∧ t.echo.eb.cells = [] ∧ t.reverb.ws.cells = [] ∧
      t.pending = rest ∧ t.cfg = s.cfg

/-- R36: the implemented register numbers, which register each is (`Reg.all` lists the registers in R36's order), their
count, and which of them WR may write. -/
def Obligations.RegisterMapIsAsListed : Prop :=
  Reg.all.length = 100 ∧ (List.range 256).filterMap Reg.ofNumber = Reg.all ∧
  (∀ a : Nat, (Reg.ofNumber a).isSome = true ↔
    a ≤ 0x0B ∨ (0x10 ≤ a ∧ a ≤ 0x25) ∨ (0x28 ≤ a ∧ a ≤ 0x2B) ∨ (0x30 ≤ a ∧ a ≤ 0x37) ∨
    (0x40 ≤ a ∧ a ≤ 0x44) ∨ (0x48 ≤ a ∧ a ≤ 0x51) ∨ (0x58 ≤ a ∧ a ≤ 0x6D) ∨ (0x70 ≤ a ∧ a ≤ 0x80)) ∧
  (∀ (a : Nat) (r : Reg), Reg.ofNumber a = some r →
    (r.writable = true ↔ a ≤ 0x0B ∨ (0x10 ≤ a ∧ a ≤ 0x1F)))

/-! ## Host access -/

/-- R216: NOP answers OK in every state, halted or not, and changes nothing else. -/
def Obligations.NopAnswersOk : Prop :=
  ∀ s : State, ∃ t, exec .nop s = .next t ∧ t.Answered .ok 0#32 ∧ OnlyAnswers s t

/-- R56, R218, R219, R221: RD, EBRD and WSRD answer the register or word they name, in every state, and change nothing
else. -/
def Obligations.ReadsAnswerAndChangeNothing : Prop :=
  (∀ (s : State) (a : Nat) (r : Reg), Reg.ofNumber a = some r →
    ∃ t, exec (.rd a) s = .next t ∧ t.Answered .ok (s.readReg r) ∧ OnlyAnswers s t) ∧
  (∀ (s : State) (idx : Nat), idx < s.cfg.ebWords →
    ∃ t, exec (.ebrd idx) s = .next t ∧ t.Answered .ok ((s.readEb idx).signExtend 32) ∧ OnlyAnswers s t) ∧
  (∀ (s : State) (idx : Nat), idx < s.cfg.wsWords →
    ∃ t, exec (.wsrd idx) s = .next t ∧ t.Answered .ok (s.readWs idx) ∧ OnlyAnswers s t)

/-- R25, R218: the bits of STATUS as RD returns it. -/
def Obligations.StatusReadsAsLaidOut : Prop :=
  ∀ s : State,
    let w := s.readReg .status
    w.getLsbD 0 = s.status.eReady ∧ w.getLsbD 1 = s.status.rReady ∧
    w.getLsbD 2 = s.status.rs0Ready ∧ w.getLsbD 3 = s.status.rs1Ready ∧
    w.getLsbD 7 = s.status.fatal ∧
    (∀ k, k < 8 → w.getLsbD (8 + k) = s.status.fcode.getLsbD k) ∧
    (∀ k, k = 4 ∨ k = 5 ∨ k = 6 ∨ 16 ≤ k → w.getLsbD k = false)

/-- R73, R217: WR to a writable register stores WDATA (its low eight bits, sign-extended, in FIRC) and changes nothing
else. -/
def Obligations.WrWritesOneRegister : Prop :=
  ∀ (s : State) (a : Nat) (r : Reg), s.status.fatal = false → Reg.ofNumber a = some r → r.writable = true →
    ∃ t, exec (.wr a) s = .next t ∧ t.Answered .ok 0#32 ∧
      t.readReg r = (match r with
        | .firc _ => (s.port.wdata.setWidth 8).signExtend 32
        | _ => s.port.wdata) ∧
      Frame s t (· = r) nothing nothing

/-- R217: WR while halted, to a reserved number, or to a read-only register answers its error and changes nothing
else. -/
def Obligations.WrErrorsChangeNothing : Prop :=
  ∀ (s : State) (a : Nat),
    (s.status.fatal = true →
      ∃ t, exec (.wr a) s = .next t ∧ t.Answered .halted 0#32 ∧ OnlyAnswers s t) ∧
    (s.status.fatal = false → Reg.ofNumber a = none →
      ∃ t, exec (.wr a) s = .next t ∧ t.Answered .range 0#32 ∧ OnlyAnswers s t) ∧
    (∀ r, s.status.fatal = false → Reg.ofNumber a = some r → r.writable = false →
      ∃ t, exec (.wr a) s = .next t ∧ t.Answered .readOnly 0#32 ∧ OnlyAnswers s t)

/-- R220, R222: EBWR stores the low 16 bits of WDATA in one word of EB, WSWR all of WDATA in one word of WS, and neither
changes anything else. -/
def Obligations.RamWritesStoreOneWord : Prop :=
  (∀ (s : State) (idx : Nat), s.status.fatal = false → idx < s.cfg.ebWords →
    ∃ t, exec (.ebwr idx) s = .next t ∧ t.Answered .ok 0#32 ∧
      t.readEb idx = s.port.wdata.setWidth 16 ∧ Frame s t nothing (· = idx) nothing) ∧
  (∀ (s : State) (idx : Nat), s.status.fatal = false → idx < s.cfg.wsWords →
    ∃ t, exec (.wswr idx) s = .next t ∧ t.Answered .ok 0#32 ∧
      t.readWs idx = s.port.wdata ∧ Frame s t nothing nothing (· = idx))

/-- R218 to R222, R173, V2, V4, V5: an operand that names nothing answers ERR_RANGE and changes nothing else. -/
def Obligations.OperandsThatNameNothingAnswerRange : Prop :=
  (∀ (s : State) (a : Nat), Reg.ofNumber a = none →
    ∃ t, exec (.rd a) s = .next t ∧ t.Answered .range 0#32 ∧ OnlyAnswers s t) ∧
  (∀ (s : State) (idx : Nat), s.cfg.ebWords ≤ idx →
    ∃ t, exec (.ebrd idx) s = .next t ∧ t.Answered .range 0#32 ∧ OnlyAnswers s t) ∧
  (∀ (s : State) (idx : Nat), s.cfg.wsWords ≤ idx →
    ∃ t, exec (.wsrd idx) s = .next t ∧ t.Answered .range 0#32 ∧ OnlyAnswers s t) ∧
  (∀ (s : State) (idx : Nat), s.status.fatal = false → s.cfg.ebWords ≤ idx →
    ∃ t, exec (.ebwr idx) s = .next t ∧ t.Answered .range 0#32 ∧ OnlyAnswers s t) ∧
  (∀ (s : State) (idx : Nat), s.status.fatal = false → s.cfg.wsWords ≤ idx →
    ∃ t, exec (.wswr idx) s = .next t ∧ t.Answered .range 0#32 ∧ OnlyAnswers s t) ∧
  (∀ (s : State) (p : Nat), s.status.fatal = false → s.cfg.presets.length ≤ p →
    ∃ t, exec (.rinit p) s = .next t ∧ t.Answered .range 0#32 ∧ OnlyAnswers s t)

/-! ## The echo model -/

/-- R141 to R144: EINIT with good arguments. -/
def Obligations.EinitConstructsEcho : Prop :=
  ∀ s : State, s.status.fatal = false → s.arg0 ≠ 0#32 → s.arg1 ≠ 0#32 → s.arg1.toNat ≤ s.cfg.ebWords →
    240 * s.arg0.toNat / 1000 ≤ s.arg1.toNat →
    ∃ t, exec .einit s = .next t ∧ t.Answered .ok 0#32 ∧
      t.readReg .eRate = s.arg0 ∧ t.readReg .eCap = s.arg1 ∧
      (t.readReg .eInc).toNat = max 1 (16 * s.arg0.toNat / 1000) ∧
      t.readReg .eLen = s.arg1 ∧ t.readReg .eWidx = 0#32 ∧ t.readReg .eCand = 0#32 ∧
      (∀ p, t.readReg (.eeff p) = 0#32) ∧ (∀ i, t.readReg (.firh i) = 0#32) ∧
      (∀ i, t.readReg (.firc i) = if i = 0 then 127#32 else 0#32) ∧
      (∀ i, i < s.arg1.toNat → t.readEb i = 0#16) ∧
      t.status = { s.status with eReady := true } ∧
      Frame s t Reg.writtenByEinit (· < s.arg1.toNat) nothing

/-- R121, R141, R173, R240: a constructor's bad arguments are a fatal error that sets FATAL and FCODE, clears the READY
bit of its unit and changes nothing else. -/
def Obligations.ConstructionErrorsAreFatal : Prop :=
  (∀ s : State, s.status.fatal = false →
    (s.arg0 = 0#32 ∨ s.arg1 = 0#32 ∨ s.cfg.ebWords < s.arg1.toNat) →
    ∃ t, exec .einit s = .next t ∧ t.Answered .param 0#32 ∧
      t.status = { s.status with eReady := false, fatal := true, fcode := 5#8 } ∧
      Frame s t (· = .status) nothing nothing) ∧
  (∀ s : State, s.status.fatal = false → s.arg0 ≠ 0#32 → s.arg1 ≠ 0#32 → s.arg1.toNat ≤ s.cfg.ebWords →
    s.arg1.toNat < 240 * s.arg0.toNat / 1000 →
    ∃ t, exec .einit s = .next t ∧ t.Answered .capacity 0#32 ∧
      t.status = { s.status with eReady := false, fatal := true, fcode := 6#8 } ∧
      Frame s t (· = .status) nothing nothing) ∧
  (∀ (s : State) (p : Nat), s.status.fatal = false → p < s.cfg.presets.length →
    (s.arg0 = 0#32 ∨ s.arg1 = 0#32 ∨ s.cfg.wsWords < s.arg1.toNat) →
    ∃ t, exec (.rinit p) s = .next t ∧ t.Answered .param 0#32 ∧
      t.status = { s.status with rReady := false, fatal := true, fcode := 5#8 } ∧
      Frame s t (· = .status) nothing nothing) ∧
  (∀ (s : State) (p : Nat) (q : Preset), s.status.fatal = false → s.cfg.presets[p]? = some q →
    s.arg0 ≠ 0#32 → s.arg1 ≠ 0#32 → s.arg1.toNat ≤ s.cfg.wsWords →
    (let ring := pow2ceil (longestPreset s.cfg.presets * s.arg0.toNat / 22050)
     s.arg1.toNat < ring ∨ ∃ l, ring ≤ lineOf q.lines l * s.arg0.toNat / 22050) →
    ∃ t, exec (.rinit p) s = .next t ∧ t.Answered .capacity 0#32 ∧
      t.status = { s.status with rReady := false, fatal := true, fcode := 6#8 } ∧
      Frame s t (· = .status) nothing nothing) ∧
  (∀ (s : State) (u : RsId), s.status.fatal = false →
    (s.arg0 = 0#32 ∨ s.arg1 = 0#32 ∨ 256 * s.arg1.toNat < s.arg0.toNat ∨ 256 * s.arg0.toNat < s.arg1.toNat) →
    ∃ t, exec (.rsinit u) s = .next t ∧ t.Answered .param 0#32 ∧
      t.status = { s.status.setReady (.rs u) false with fatal := true, fcode := 5#8 } ∧
      Frame s t (· = .status) nothing nothing)

/-- R145 to R148 steps 1 to 4, R153: what ETICK does to the parameters latched, the candidate, the index and the length,
and that it stores one word, at the new write index. -/
def Obligations.EtickAdvancesAndStoresOneWord : Prop :=
  ∀ s : State, s.status.fatal = false → s.status.eReady = true → s.echoRingOk = true →
    let e := s.echo
    let w := (e.widx.toNat + 1) % e.len.toNat
    let cand := min e.cap.toNat
      (max 1 (roundInc (fmul (eff e.cfgSize e.modSize) (u32ToF e.cap.toNat)) e.inc.toNat))
    ∃ t, exec .etick s = .next t ∧ t.Answered .ok 0#32 ∧
      (t.readReg .eWidx).toNat = w ∧ (t.readReg .eCand).toNat = cand ∧
      (t.readReg .eLen).toNat = (if cand ≠ e.len.toNat ∧ w = 0 then cand else e.len.toNat) ∧
      (∀ p, t.readReg (.eeff p) = eff (s.readReg (.ecfg p)) (s.readReg (.emod p))) ∧
      e.nextIndex = w ∧
      Frame s t Reg.writtenByEtick (· = e.nextIndex) nothing

/-- R148 steps 5 to 9, R150 to R152: the delayed read, the filter, the word written back and the two outputs of ETICK. -/
def Obligations.EtickFiltersAndFeedsBack : Prop :=
  ∀ s : State, s.status.fatal = false → s.status.eReady = true → s.echoRingOk = true →
    ∃ t, exec .etick s = .next t ∧
      (let len := t.echo.len.toNat
       let w := t.echo.widx.toNat
       let off := floorReal (fmul t.echo.effDelay (u32ToF len))
       let raw := s.readEb (ringIndex ((w : Int) - (off : Int)) len)
       let p (i : Fin 8) : Int := (s.echo.firc.get i).toInt * (t.echo.firh.get i).toInt / 128
       let y := sat16 (wrap16 (p 0 + p 1 + p 2 + p 3 + p 4 + p 5 + p 6) + p 7)
       t.echo.firh.get 0 = raw ∧
       (∀ k : Fin 8, ∀ h : k.val + 1 < 8, t.echo.firh.get ⟨k.val + 1, h⟩ = s.echo.firh.get k) ∧
       t.readEb w = BitVec.ofInt 16
         (sat16 (f2q (fmul (fadd s.samples.r0 s.samples.r1) fHalf) + f2i (fmul t.echo.effFb (i16ToF y)))) ∧
       t.readReg (.sample 2) = q2f y ∧ t.readReg (.sample 3) = fsub fZero (q2f y))

/-- R93, R94, R147: an effective parameter lies in [0, 1], is not a NaN and not −0.0, whatever bit patterns the two
registers hold. -/
def Obligations.EffectiveParametersInUnitRange : Prop :=
  ∀ c m : F, fIsNaN (eff c m) = false ∧ fSign (eff c m) = false ∧
    fle fZero (eff c m) = true ∧ fle (eff c m) fOne = true

/-- R153: a native tick of the echo model, whether ETICK, RSTICK 0 or FRAME makes it, changes the length only where its new
write index is 0, and then to the candidate of that tick; and after a tick at a wrap point the length stands for the
next E_LEN − 1 ticks, whatever is written between the ticks besides the length and the index. -/
def Obligations.LengthChangesOnlyAtWrap : Prop :=
  (∀ (e : Echo) (inL inR : F), (e.tick inL inR).1.len ≠ e.len →
    (e.tick inL inR).1.widx = 0#32 ∧ (e.tick inL inR).1.len = (e.tick inL inR).1.cand) ∧
  (∀ s t : State, exec .etick s = .next t → t.echo.len ≠ s.echo.len →
    t.echo.widx = 0#32 ∧ t.echo.len = t.echo.cand) ∧
  (∀ f : Nat → Echo, (f 0).widx = 0#32 →
    (∀ k, ∃ (e : Echo) (inL inR : F), e.len = (f k).len ∧ e.widx = (f k).widx ∧ f (k + 1) = (e.tick inL inR).1) →
    ∀ k, k < (f 0).len.toNat → (f k).len = (f 0).len)

/-- R155: ECLR zeroes EB[0..E_CAP−1] and the FIR history and changes nothing else. -/
def Obligations.EclrClearsDelayLines : Prop :=
  ∀ s : State, s.status.fatal = false → s.status.eReady = true → s.echo.cap.toNat ≤ s.cfg.ebWords →
    ∃ t, exec .eclr s = .next t ∧ t.Answered .ok 0#32 ∧
      (∀ i, i < s.echo.cap.toNat → t.readEb i = 0#16) ∧ (∀ i, t.readReg (.firh i) = 0#32) ∧
      Frame s t (fun r => ∃ i, r = .firh i) (· < s.echo.cap.toNat) nothing

/-- R156: ECLR leaves a silent echo model; with zero input and zero effective feedback ETICK outputs +0.0 on both
channels and leaves the model silent again. -/
def Obligations.SilentEchoStaysSilent : Prop :=
  (∀ s : State, s.status.fatal = false → s.status.eReady = true → s.EchoOk →
    ∃ t, exec .eclr s = .next t ∧ t.EchoSilent ∧ t.EchoOk) ∧
  (∀ s : State, s.status.fatal = false → s.status.eReady = true → s.EchoOk → s.EchoSilent →
    IsZero s.samples.r0 → IsZero s.samples.r1 → eff s.echo.cfgFb s.echo.modFb = fZero →
    ∃ t, exec .etick s = .next t ∧ t.samples.r2 = fZero ∧ t.samples.r3 = fZero ∧ t.EchoSilent ∧ t.EchoOk)

/-- R154: the filter-blend parameter influences nothing but its own registers: two states that differ only there go,
by any command but RD, to two states that differ only there. -/
def Obligations.FilterBlendInfluencesNothing : Prop :=
  ∀ (i : Instr) (s s' t : State), (∀ a, i ≠ .rd a) → SameButFilterBlend s s' → exec i s = .next t →
    ∃ t', exec i s' = .next t' ∧ SameButFilterBlend t t'

/-! ## The reverb model -/

/-- R173 to R176: RINIT with good arguments. -/
def Obligations.RinitConstructsReverb : Prop :=
  ∀ (s : State) (p : Nat) (q : Preset), s.status.fatal = false → s.cfg.presets[p]? = some q →
    s.arg0 ≠ 0#32 → s.arg1 ≠ 0#32 → s.arg1.toNat ≤ s.cfg.wsWords →
    (let ring := pow2ceil (longestPreset s.cfg.presets * s.arg0.toNat / 22050)
     ring ≤ s.arg1.toNat → (∀ l, lineOf q.lines l * s.arg0.toNat / 22050 < ring) →
     ∃ t, exec (.rinit p) s = .next t ∧ t.Answered .ok 0#32 ∧
      t.readReg .rRate = s.arg0 ∧ t.readReg .rCap = s.arg1 ∧ t.readReg .rPreset = BitVec.ofNat 32 p ∧
      (t.readReg .rRing).toNat = ring ∧ t.readReg .rCur = 0#32 ∧
      (∀ g, t.readReg (.gain g) = fdiv (i16ToF (gainOf q.gains g).toInt) f32768) ∧
      (∀ l, (t.readReg (.line l)).toNat = lineOf q.lines l * s.arg0.toNat / 22050) ∧
      (∀ i, i < s.arg1.toNat → t.readWs i = fZero) ∧
      t.status = { s.status with rReady := true } ∧
      Frame s t Reg.writtenByRinit nothing (· < s.arg1.toNat))

/-- R178, R180 to R184: RTICK runs the four stages in the order of R181, writes the two outputs of the second all-pass
stages, the cursor and eight ring words, and nothing else. -/
def Obligations.RtickRunsTheNetwork : Prop :=
  ∀ s : State, s.status.fatal = false → s.status.rReady = true → s.reverbRingOk = true →
    let a := s.reverb.lines
    let g := s.reverb.gains
    let lin := fmul g.lin s.samples.r0
    let rin := fmul g.rin s.samples.r1
    let r1 := s.reverb.reflect lin a.dLSAME a.mLSAME
    let r2 := r1.reflect rin a.dRSAME a.mRSAME
    let l := r2.comb a.mLCOMB1 a.mLCOMB2 a.mLCOMB3 a.mLCOMB4
    let r := r2.comb a.mRCOMB1 a.mRCOMB2 a.mRCOMB3 a.mRCOMB4
    let p1 := r2.apf l a.mLAPF1 a.dAPF1 g.apf1
    let p2 := p1.1.apf r a.mRAPF1 a.dAPF1 g.apf1
    let p3 := p2.1.apf p1.2 a.mLAPF2 a.dAPF2 g.apf2
    let p4 := p3.1.apf p2.2 a.mRAPF2 a.dAPF2 g.apf2
    let r8 := (p4.1.reflect lin a.dRDIFF a.mLDIFF).reflect rin a.dLDIFF a.mRDIFF
    ∃ t, exec .rtick s = .next t ∧ t.Answered .ok 0#32 ∧
      t.readReg (.sample 4) = p3.2 ∧ t.readReg (.sample 5) = p4.2 ∧
      (t.readReg .rCur).toNat = (s.reverb.cur.toNat + 1) % s.reverb.ring.toNat ∧
      (∀ i, t.readWs i = r8.ws.read i) ∧
      Frame s t Reg.writtenByRtick nothing (· ∈ s.reverb.writeIndices)

/-- R182 to R184: the equations of the stages, and that each stage writes one ring word or none. -/
def Obligations.NetworkStagesFollowTheirEquations : Prop :=
  ∀ (r : Reverb) (x g : F) (d m a1 a2 a3 a4 : Word),
    (let v := r.reflect x d m
     v.w m.toNat = fadd (fmul (fsub (fadd x (fmul (r.w d.toNat) r.gains.wall)) (r.w ((m.toNat : Int) - 1)))
       r.gains.iir) (r.w ((m.toNat : Int) - 1)) ∧
     (∀ i, i ≠ r.index m.toNat → v.ws.read i = r.ws.read i) ∧ v = { r with ws := v.ws }) ∧
    r.comb a1 a2 a3 a4 =
      fadd (fadd (fadd (fmul r.gains.comb1 (r.w a1.toNat)) (fmul r.gains.comb2 (r.w a2.toNat)))
        (fmul r.gains.comb3 (r.w a3.toNat))) (fmul r.gains.comb4 (r.w a4.toNat)) ∧
    (let z := r.w ((m.toNat : Int) - (d.toNat : Int))
     let v := (r.apf x m d g).1
     v.w m.toNat = fsub x (fmul g z) ∧ (r.apf x m d g).2 = fadd (fmul (fsub x (fmul g z)) g) z ∧
     (∀ i, i ≠ r.index m.toNat → v.ws.read i = r.ws.read i) ∧ v = { r with ws := v.ws })

/-- R178: the cursor turns an address into a delay: k native ticks of the reverb model later, address m − k names the
physical word that address m named. -/
def Obligations.CursorTurnsAddressesIntoDelays : Prop :=
  ∀ (r : Reverb) (inL inR : F) (m : Int) (k : Nat), 1 ≤ r.ring.toNat →
    (r.afterTicks inL inR k).index (m - k) = r.index m

/-- R185: RCLR zeroes WS[0..R_CAP−1] and changes nothing else. -/
def Obligations.RclrClearsWorkspace : Prop :=
  ∀ s : State, s.status.fatal = false → s.status.rReady = true → s.reverb.cap.toNat ≤ s.cfg.wsWords →
    ∃ t, exec .rclr s = .next t ∧ t.Answered .ok 0#32 ∧
      (∀ i, i < s.reverb.cap.toNat → t.readWs i = fZero) ∧
      Frame s t nothing nothing (· < s.reverb.cap.toNat)

/-- R187: RCLR leaves a silent reverb; with zero input RTICK outputs zeros and leaves the reverb silent again. -/
def Obligations.SilentReverbStaysSilent : Prop :=
  (∀ s : State, s.status.fatal = false → s.status.rReady = true → s.ReverbOk →
    ∃ t, exec .rclr s = .next t ∧ t.ReverbSilent ∧ t.ReverbOk) ∧
  (∀ s : State, s.status.fatal = false → s.status.rReady = true → s.ReverbOk → s.GainsFinite →
    s.ReverbSilent → IsZero s.samples.r0 → IsZero s.samples.r1 →
    ∃ t, exec .rtick s = .next t ∧ IsZero t.samples.r4 ∧ IsZero t.samples.r5 ∧
      t.ReverbSilent ∧ t.ReverbOk ∧ t.GainsFinite)

/-! ## The resamplers -/

/-- R121, R122: RSINIT with good rates. -/
def Obligations.RsinitConstructsResampler : Prop :=
  ∀ (s : State) (u : RsId), s.status.fatal = false → s.arg0 ≠ 0#32 → s.arg1 ≠ 0#32 →
    s.arg0.toNat ≤ 256 * s.arg1.toNat → s.arg1.toNat ≤ 256 * s.arg0.toNat →
    ∃ t, exec (.rsinit u) s = .next t ∧ t.Answered .ok 0#32 ∧
      t.readReg (.rs u .driving) = s.arg0 ∧ t.readReg (.rs u .driven) = s.arg1 ∧
      t.readReg (.rs u .period) = fdiv (u32ToF s.arg0.toNat) (u32ToF s.arg1.toNat) ∧
      t.readReg (.rs u .phase) = fZero ∧
      t.readReg (.rs u .lastL) = fZero ∧ t.readReg (.rs u .lastR) = fZero ∧
      t.readReg (.rs u .nextL) = fZero ∧ t.readReg (.rs u .nextR) = fZero ∧
      t.status = s.status.setReady (.rs u) true ∧
      Frame s t (Reg.writtenByRsinit u) nothing nothing

/-- R129: RSCLR zeroes the phase and both held pairs of its instance and changes nothing else. -/
def Obligations.RsclrClearsHeldOutputs : Prop :=
  ∀ (s : State) (u : RsId), s.status.fatal = false → s.status.ready (.rs u) = true →
    ∃ t, exec (.rsclr u) s = .next t ∧ t.Answered .ok 0#32 ∧
      t.readReg (.rs u .phase) = fZero ∧
      t.readReg (.rs u .lastL) = fZero ∧ t.readReg (.rs u .lastR) = fZero ∧
      t.readReg (.rs u .nextL) = fZero ∧ t.readReg (.rs u .nextR) = fZero ∧
      Frame s t (Reg.writtenByRsclr u) nothing nothing

/-- R124 to R127: from a state that satisfies R33, RSTICK u answers OK: the watchdog is not reached, the producer is
called n times, at most floor(1/period) + 2, with the tick's input pair; the phase is the advanced phase less n rounded
subtractions of the period, each made where the phase had reached it; the held pairs are the outputs of the last two
calls; R33 holds again, and the output pair interpolates the held pairs at phase/period (log 11). -/
def Obligations.RstickCompletesFromItsInvariant : Prop :=
  ∀ (s : State) (u : RsId), s.status.fatal = false → s.rsReady u = true → s.modelRingOk u = true →
    (s.rs u).InRange →
    ∃ t n, exec (.rstick u) s = .next t ∧ t.Answered .ok 0#32 ∧
      n ≤ 2 ^ 149 / fUnits (s.rs u).period + 2 ∧ (t.rs u).InRange ∧
      (u = .rs0 →
        t.echo = s.echo.afterTicks s.samples.r0 s.samples.r1 n ∧
        s.rs0.FollowsCalls t.rs0 (s.echo.outputAt s.samples.r0 s.samples.r1) n ∧
        t.samples.r2 = lerp t.rs0.lastL t.rs0.nextL (fdiv t.rs0.phase t.rs0.period) ∧
        t.samples.r3 = lerp t.rs0.lastR t.rs0.nextR (fdiv t.rs0.phase t.rs0.period)) ∧
      (u = .rs1 →
        t.reverb = s.reverb.afterTicks s.samples.r0 s.samples.r1 n ∧
        s.rs1.FollowsCalls t.rs1 (s.reverb.outputAt s.samples.r0 s.samples.r1) n ∧
        t.samples.r4 = lerp t.rs1.lastL t.rs1.nextL (fdiv t.rs1.phase t.rs1.period) ∧
        t.samples.r5 = lerp t.rs1.lastR t.rs1.nextR (fdiv t.rs1.phase t.rs1.period)) ∧
      Frame s t (Reg.writtenByRstick u) (fun _ => u = .rs0) (fun _ => u = .rs1)

/-- R125, R126: at period 1.0 and phase +0.0 a tick makes exactly one producer call, the phase returns to +0.0, the old
newer pair becomes the older one and the producer's output the newer one. -/
def Obligations.RstickAtUnityCallsOnce : Prop :=
  ∀ s : State, s.status.fatal = false →
    (s.rsReady .rs0 = true → s.echoRingOk = true → s.rs0.period = fOne → s.rs0.phase = fZero →
      let p := s.echo.tick s.samples.r0 s.samples.r1
      ∃ t, exec (.rstick .rs0) s = .next t ∧ t.Answered .ok 0#32 ∧ t.echo = p.1 ∧
        t.rs0 = { s.rs0 with lastL := s.rs0.nextL, lastR := s.rs0.nextR, nextL := p.2.1, nextR := p.2.2 } ∧
        t.samples.r2 = lerp s.rs0.nextL p.2.1 fZero ∧ t.samples.r3 = lerp s.rs0.nextR p.2.2 fZero) ∧
    (s.rsReady .rs1 = true → s.reverbRingOk = true → s.rs1.period = fOne → s.rs1.phase = fZero →
      let p := s.reverb.tick s.samples.r0 s.samples.r1
      ∃ t, exec (.rstick .rs1) s = .next t ∧ t.Answered .ok 0#32 ∧ t.reverb = p.1 ∧
        t.rs1 = { s.rs1 with lastL := s.rs1.nextL, lastR := s.rs1.nextR, nextL := p.2.1, nextR := p.2.2 } ∧
        t.samples.r4 = lerp s.rs1.nextL p.2.1 fZero ∧ t.samples.r5 = lerp s.rs1.nextR p.2.2 fZero)

/-- R124, R125: a tick whose phase stays below the period makes no producer call: both models and both RAMs are
untouched and only the phase and the output pair change. R128, R269: while both held pairs are +0.0, as RSINIT and RSCLR
leave them, its output pair is +0.0. -/
def Obligations.RstickWithoutCallOnlyInterpolates : Prop :=
  ∀ (s : State) (u : RsId), s.status.fatal = false → s.rsReady u = true → s.modelRingOk u = true →
    fle (s.rs u).period (fadd (s.rs u).phase fOne) = false →
    ∃ t, exec (.rstick u) s = .next t ∧ t.Answered .ok 0#32 ∧
      t.echo = s.echo ∧ t.reverb = s.reverb ∧
      t.rs u = { s.rs u with phase := fadd (s.rs u).phase fOne } ∧
      (u = .rs0 → t.samples.r2 = lerp s.rs0.lastL s.rs0.nextL (fdiv t.rs0.phase s.rs0.period) ∧
        t.samples.r3 = lerp s.rs0.lastR s.rs0.nextR (fdiv t.rs0.phase s.rs0.period)) ∧
      (u = .rs1 → t.samples.r4 = lerp s.rs1.lastL s.rs1.nextL (fdiv t.rs1.phase s.rs1.period) ∧
        t.samples.r5 = lerp s.rs1.lastR s.rs1.nextR (fdiv t.rs1.phase s.rs1.period)) ∧
      ((s.rs u).InRange → s.rs u = { (s.rs u).clear with phase := (s.rs u).phase } →
        (u = .rs0 → t.samples.r2 = fZero ∧ t.samples.r3 = fZero) ∧
        (u = .rs1 → t.samples.r4 = fZero ∧ t.samples.r5 = fZero)) ∧
      Frame s t (Reg.writtenByRstick u) nothing nothing

/-- R127, R240, U5: in a state no run reaches, with period +0.0 and phase +0.0, RSTICK u and FRAME end in the watchdog: a
fatal error with code 7 that clears RSu_READY; what U5 does not leave open is unchanged (log 6). In FRAME the watchdog
of resampler 0 ends the command before the reverb path, and that of resampler 1 leaves what the driving tick of
resampler 0 did. -/
def Obligations.ZeroPeriodEndsInWatchdog : Prop :=
  (∀ (s : State) (u : RsId), s.status.fatal = false → s.rsReady u = true → s.modelRingOk u = true →
    (s.rs u).period = fZero → (s.rs u).phase = fZero →
    ∃ t, exec (.rstick u) s = .next t ∧ t.Answered .watchdog 0#32 ∧
      t.status = { s.status.setReady (.rs u) false with fatal := true, fcode := 7#8 } ∧
      (∀ r, ¬ Reg.openAfterWatchdog u false r → t.readReg r = s.readReg r) ∧
      (u = .rs1 → ∀ i, t.readEb i = s.readEb i) ∧ (u = .rs0 → ∀ i, t.readWs i = s.readWs i) ∧
      t.cfg = s.cfg ∧ t.pending = s.pending) ∧
  (∀ s : State, s.status.fatal = false → s.rsReady .rs0 = true → s.rsReady .rs1 = true →
    s.echoRingOk = true → s.reverbRingOk = true →
    (s.rs0.period = fZero → s.rs0.phase = fZero →
      ∃ t, exec .frame s = .next t ∧ t.Answered .watchdog 0#32 ∧
        t.status = { s.status with rs0Ready := false, fatal := true, fcode := 7#8 } ∧
        (∀ r, ¬ Reg.openAfterWatchdog .rs0 true r → t.readReg r = s.readReg r) ∧
        (∀ i, t.readWs i = s.readWs i) ∧ t.cfg = s.cfg ∧ t.pending = s.pending) ∧
    (∀ s1, exec (.rstick .rs0) s = .next s1 → s1.port.resp = 0#4 → s.rs1.period = fZero → s.rs1.phase = fZero →
      ∃ t, exec .frame s = .next t ∧ t.Answered .watchdog 0#32 ∧
        t.status = { s.status with rs1Ready := false, fatal := true, fcode := 7#8 } ∧
        (∀ r, ¬ Reg.openAfterWatchdog .rs1 true r → t.readReg r = s1.readReg r) ∧
        (∀ i, t.readEb i = s1.readEb i) ∧ t.cfg = s.cfg ∧ t.pending = s.pending))

/-! ## The mixer and the frame -/

/-- R201, R202: MIX crossfades and blends per channel with clamped positions, into S6 and S7 only. -/
def Obligations.MixBlendsEffectsAndDry : Prop :=
  ∀ s : State, s.status.fatal = false →
    let f := clamp01 s.xfade
    let w := clamp01 s.wetdry
    ∃ t, exec .mix s = .next t ∧ t.Answered .ok 0#32 ∧
      t.readReg (.sample 6) = lerp s.samples.r0
        (fadd (fmul s.samples.r2 (qsin (fsub fOne f))) (fmul s.samples.r4 (qsin f))) w ∧
      t.readReg (.sample 7) = lerp s.samples.r1
        (fadd (fmul s.samples.r3 (qsin (fsub fOne f))) (fmul s.samples.r5 (qsin f))) w ∧
      Frame s t (fun r => r = .sample 6 ∨ r = .sample 7) nothing nothing

/-- R96, R99: for finite operands the crossfade is exact at both ends and the linear blend at t = 0 and between equal
operands, bit for bit away from −0.0; at t = 1 the linear blend is `fadd(a, fsub(b, a))`, which is b where b − a is
exact. -/
def Obligations.BlendEndPointsAreExact : Prop :=
  ∀ a b : F, fIsFinite a = true → fIsFinite b = true →
    (a ≠ 0x80000000#32 → xfade a b fZero = a) ∧
    (b ≠ 0x80000000#32 → xfade a b fOne = b) ∧
    (fIsFinite (fsub b a) = true →
      (a ≠ 0x80000000#32 → lerp a b fZero = a) ∧
      lerp a b fOne = fadd a (fsub b a) ∧
      (fReal (fsub b a) = fReal b - fReal a → fReal (lerp a b fOne) = fReal b)) ∧
    (∀ t : F, fIsFinite t = true → a ≠ 0x80000000#32 → lerp a a t = a)

/-- R205, R125: from a state with both resamplers in R33 and both rings in place, FRAME answers OK; each model ran whole
native ticks on S0 and S1, each instance's phase and held pairs follow its own calls, and S6, S7 are the mix of the new
S2 to S5. -/
def Obligations.FrameCompletesFromItsInvariant : Prop :=
  ∀ s : State, s.status.fatal = false → s.rsReady .rs0 = true → s.rsReady .rs1 = true →
    s.echoRingOk = true → s.reverbRingOk = true → s.rs0.InRange → s.rs1.InRange →
    ∃ t n m, exec .frame s = .next t ∧ t.Answered .ok 0#32 ∧ t.rs0.InRange ∧ t.rs1.InRange ∧
      n ≤ 2 ^ 149 / fUnits s.rs0.period + 2 ∧ m ≤ 2 ^ 149 / fUnits s.rs1.period + 2 ∧
      t.echo = s.echo.afterTicks s.samples.r0 s.samples.r1 n ∧
      s.rs0.FollowsCalls t.rs0 (s.echo.outputAt s.samples.r0 s.samples.r1) n ∧
      t.reverb = s.reverb.afterTicks s.samples.r0 s.samples.r1 m ∧
      s.rs1.FollowsCalls t.rs1 (s.reverb.outputAt s.samples.r0 s.samples.r1) m ∧
      t.samples.r2 = lerp t.rs0.lastL t.rs0.nextL (fdiv t.rs0.phase t.rs0.period) ∧
      t.samples.r3 = lerp t.rs0.lastR t.rs0.nextR (fdiv t.rs0.phase t.rs0.period) ∧
      t.samples.r4 = lerp t.rs1.lastL t.rs1.nextL (fdiv t.rs1.phase t.rs1.period) ∧
      t.samples.r5 = lerp t.rs1.lastR t.rs1.nextR (fdiv t.rs1.phase t.rs1.period) ∧
      t.samples.r6 = lerp s.samples.r0 (xfade t.samples.r2 t.samples.r4 (clamp01 s.xfade)) (clamp01 s.wetdry) ∧
      t.samples.r7 = lerp s.samples.r1 (xfade t.samples.r3 t.samples.r5 (clamp01 s.xfade)) (clamp01 s.wetdry) ∧
      Frame s t Reg.writtenByFrame (fun _ => True) (fun _ => True)

/-- R206: a FRAME that answers OK equals RSTICK 0, RSTICK 1 and MIX run in order, and the order of the two ticks cannot be
observed. -/
def Obligations.FrameIsTwoTicksAndMix : Prop :=
  ∀ s t : State, exec .frame s = .next t → t.port.resp = 0#4 →
    ∃ s1 s2, exec (.rstick .rs0) s = .next s1 ∧ s1.port.resp = 0#4 ∧
      exec (.rstick .rs1) s1 = .next s2 ∧ s2.port.resp = 0#4 ∧ exec .mix s2 = .next t ∧
      ∃ s3, exec (.rstick .rs1) s = .next s3 ∧ exec (.rstick .rs0) s3 = .next s2

/-! ## Errors -/

/-- R237: a command that answers a non-fatal error has changed nothing but the answer. -/
def Obligations.NonFatalErrorsLeaveNoTrace : Prop :=
  (∀ (i : Instr) (s t : State), exec i s = .next t →
    t.port.resp = 1#4 ∨ t.port.resp = 2#4 ∨ t.port.resp = 3#4 ∨ t.port.resp = 4#4 ∨ t.port.resp = 8#4 →
    OnlyAnswers s t) ∧
  (∀ (s : State) (rest : List HostEvent) (c w : Word), s.pending = .transaction c w :: rest → decode c = none →
    ∃ t, step s = .next t ∧ OnlyAnswers (s.present rest c w) t)

/-- R236, R70: a command answers one of the nine codes, RDATA is 0 with every code but OK, and with OK it is 0 unless the
command is RD, EBRD or WSRD. -/
def Obligations.ErrorsAnswerZeroData : Prop :=
  ∀ (i : Instr) (s t : State), exec i s = .next t →
    (∃ r : Response, t.port.resp = BitVec.ofNat 4 r.code) ∧
    (t.port.resp ≠ 0#4 → t.port.rdata = 0#32) ∧
    ((∀ a, i ≠ .rd a) → (∀ x, i ≠ .ebrd x) → (∀ x, i ≠ .wsrd x) → t.port.rdata = 0#32)

/-- R241: while FATAL = 1 every command but NOP, RD, EBRD and WSRD answers ERR_HALTED and changes nothing else; those four
are not halted and change nothing but the answer; and no step but a reset changes STATUS. -/
def Obligations.HaltedAdmitsOnlyReads : Prop :=
  (∀ (i : Instr) (s : State), s.status.fatal = true →
    i ≠ .nop → (∀ a, i ≠ .rd a) → (∀ x, i ≠ .ebrd x) → (∀ x, i ≠ .wsrd x) →
    ∃ t, exec i s = .next t ∧ t.Answered .halted 0#32 ∧ OnlyAnswers s t) ∧
  (∀ (i : Instr) (s : State), s.status.fatal = true →
    (i = .nop ∨ (∃ a, i = .rd a) ∨ (∃ x, i = .ebrd x) ∨ ∃ x, i = .wsrd x) →
    ∃ t, exec i s = .next t ∧ t.port.resp ≠ 8#4 ∧ OnlyAnswers s t) ∧
  (∀ s t : State, s.status.fatal = true → step s = .next t →
    (∀ rest, s.pending ≠ .reset :: rest) → t.status = s.status)

/-- R223: which commands answer ERR_NOT_READY while the unit they use is not constructed. -/
def Obligations.UnconstructedUnitsAnswerNotReady : Prop :=
  ∀ s : State, s.status.fatal = false →
    (s.status.eReady = false → ∀ i, i = .etick ∨ i = .eclr →
      ∃ t, exec i s = .next t ∧ t.Answered .notReady 0#32 ∧ OnlyAnswers s t) ∧
    (s.status.rReady = false → ∀ i, i = .rtick ∨ i = .rclr →
      ∃ t, exec i s = .next t ∧ t.Answered .notReady 0#32 ∧ OnlyAnswers s t) ∧
    (∀ u, s.status.ready (.rs u) = false →
      ∃ t, exec (.rsclr u) s = .next t ∧ t.Answered .notReady 0#32 ∧ OnlyAnswers s t) ∧
    (s.status.rs0Ready = false ∨ s.status.eReady = false →
      ∃ t, exec (.rstick .rs0) s = .next t ∧ t.Answered .notReady 0#32 ∧ OnlyAnswers s t) ∧
    (s.status.rs1Ready = false ∨ s.status.rReady = false →
      ∃ t, exec (.rstick .rs1) s = .next t ∧ t.Answered .notReady 0#32 ∧ OnlyAnswers s t) ∧
    ((∃ k, s.status.ready k = false) →
      ∃ t, exec .frame s = .next t ∧ t.Answered .notReady 0#32 ∧ OnlyAnswers s t)

/-! ## What every step keeps -/

/-- R52, R53, R149, R179: every step keeps both RAMs in canonical form with no word beyond their physical size. -/
def Obligations.StepKeepsMemoryCanonical : Prop :=
  ∀ s t : State, s.MemoryOk → step s = .next t → t.MemoryOk

/-- R28, R30, R32, R149, R179: every step keeps the ring invariants of the constructed models while not halted. -/
def Obligations.StepKeepsRings : Prop :=
  ∀ s t : State, s.RingsOk → step s = .next t → t.RingsOk

/-- R33, R122, R126 (a): every step keeps the invariant of the constructed resamplers while not halted. -/
def Obligations.StepKeepsResamplerRange : Prop :=
  ∀ s t : State, s.ResamplersOk → step s = .next t → t.ResamplersOk

/-- R25, R240: every step keeps FCODE at 0 while FATAL = 0 and at a fatal code while FATAL = 1. -/
def Obligations.StepKeepsStatusLegal : Prop :=
  ∀ s t : State, s.StatusOk → step s = .next t → t.StatusOk

/-- R37, R260: the reset state satisfies every invariant. -/
def Obligations.ResetSatisfiesInvariants : Prop :=
  State.reset.MemoryOk ∧ State.reset.RingsOk ∧ State.reset.ResamplersOk ∧ State.reset.StatusOk

/-- R149, R179, R66: where the ring invariants hold no step stops: it answers a next state. That a ready unit with a ring
or capacity outside its RAM stops by name is the model's (log 7). -/
def Obligations.OnlyBrokenRingsStop : Prop :=
  (∀ s : State, s.RingsOk → ∃ t, step s = .next t) ∧
  (∀ s : State, s.status.fatal = false →
    (s.status.eReady = true → s.echoRingOk = false → exec .etick s = .fault .ebIndex) ∧
    (s.status.eReady = true → s.cfg.ebWords < s.echo.cap.toNat → exec .eclr s = .fault .ebIndex) ∧
    (s.status.rReady = true → s.reverbRingOk = false → exec .rtick s = .fault .wsIndex) ∧
    (s.status.rReady = true → s.cfg.wsWords < s.reverb.cap.toNat → exec .rclr s = .fault .wsIndex) ∧
    (∀ u, s.rsReady u = true → s.modelRingOk u = false → exec (.rstick u) s = .fault (modelFault u)) ∧
    (s.rsReady .rs0 = true → s.rsReady .rs1 = true →
      (s.echoRingOk = false → exec .frame s = .fault .ebIndex) ∧
      (s.echoRingOk = true → s.reverbRingOk = false → exec .frame s = .fault .wsIndex)))

/-- R23, R26, R20: no command but WR writes XFADE, WETDRY, ARG0 and ARG1, none but WR the config and modulation registers
unless it ends in the watchdog, and none the configuration. -/
def Obligations.OnlyWrWritesParameters : Prop :=
  ∀ (i : Instr) (s t : State), exec i s = .next t →
    t.cfg = s.cfg ∧
    ((∀ a, i ≠ .wr a) →
      t.xfade = s.xfade ∧ t.wetdry = s.wetdry ∧ t.arg0 = s.arg0 ∧ t.arg1 = s.arg1 ∧
      (t.port.resp ≠ 7#4 → ∀ p, t.readReg (.ecfg p) = s.readReg (.ecfg p) ∧
        t.readReg (.emod p) = s.readReg (.emod p)))

/-! ## Arithmetic -/

/-- R90: the sum and the difference of two finite values are the exact one rounded once, to nearest, ties to even, to an
infinity on overflow, an exact zero being +0.0 unless both terms are −0.0; infinities pass through; a NaN operand and
∞ − ∞ give a quiet NaN. -/
def Obligations.AddSubRoundToNearestEven : Prop :=
  ∀ x y : F,
    (fIsFinite x = true → fIsFinite y = true →
      RoundsTo (fadd x y) (if fReal x + fReal y = 0 then fSign x && fSign y else decide (fReal x + fReal y < 0))
        (fReal x + fReal y) 1 ∧
      RoundsTo (fsub x y) (if fReal x - fReal y = 0 then fSign x && !fSign y else decide (fReal x - fReal y < 0))
        (fReal x - fReal y) 1) ∧
    (fIsNaN x = true ∨ fIsNaN y = true → fIsQuietNaN (fadd x y) = true ∧ fIsQuietNaN (fsub x y) = true) ∧
    (fIsInf x = true → fIsInf y = true →
      (fSign x = fSign y → fadd x y = x ∧ fIsQuietNaN (fsub x y) = true) ∧
      (fSign x ≠ fSign y → fIsQuietNaN (fadd x y) = true ∧ fsub x y = x)) ∧
    (fIsInf x = true → fIsFinite y = true → fadd x y = x ∧ fsub x y = x) ∧
    (fIsFinite x = true → fIsInf y = true → fadd x y = y ∧ fsub x y = fNeg y)

/-- R90: the product of two finite values, and their quotient where the divisor is not 0, are the exact one rounded once,
to nearest, ties to even, to an infinity on overflow, with the sign of both operands' signs; x/0 is an infinity; and
0/0, 0·∞, ∞/∞ and a NaN operand give a quiet NaN. -/
def Obligations.MulDivRoundToNearestEven : Prop :=
  ∀ x y : F,
    let sign := fSign x != fSign y
    (fIsFinite x = true → fIsFinite y = true →
      RoundsTo (fmul x y) sign (fReal x * fReal y) (2 ^ 149) ∧
      (fReal y ≠ 0 → RoundsTo (fdiv x y) sign (fReal x * 2 ^ 149) (fReal y)) ∧
      (fReal y = 0 → fReal x ≠ 0 → fdiv x y = fPack sign fInfMag) ∧
      (fReal y = 0 → fReal x = 0 → fIsQuietNaN (fdiv x y) = true)) ∧
    (fIsNaN x = true ∨ fIsNaN y = true → fIsQuietNaN (fmul x y) = true ∧ fIsQuietNaN (fdiv x y) = true) ∧
    (fIsInf x = true → fIsInf y = true → fmul x y = fPack sign fInfMag ∧ fIsQuietNaN (fdiv x y) = true) ∧
    (fIsInf x = true → fIsFinite y = true →
      fdiv x y = fPack sign fInfMag ∧
      (fReal y ≠ 0 → fmul x y = fPack sign fInfMag) ∧ (fReal y = 0 → fIsQuietNaN (fmul x y) = true)) ∧
    (fIsFinite x = true → fIsInf y = true →
      fdiv x y = fPack sign 0 ∧
      (fReal x ≠ 0 → fmul x y = fPack sign fInfMag) ∧ (fReal x = 0 → fIsQuietNaN (fmul x y) = true))

/-- R90, R93: the comparisons of finite values are those of the real numbers (zeros of either sign are equal), the
infinities stand at the two ends, and every comparison with a NaN is false. -/
def Obligations.ComparisonsCompareValues : Prop :=
  (∀ x y : F, fIsFinite x = true → fIsFinite y = true →
    (flt x y = true ↔ fReal x < fReal y) ∧ (fle x y = true ↔ fReal x ≤ fReal y) ∧
    (feq x y = true ↔ fReal x = fReal y)) ∧
  (∀ x y : F, fIsNaN x = true ∨ fIsNaN y = true → flt x y = false ∧ fle x y = false ∧ feq x y = false) ∧
  (∀ x : F, fIsNaN x = false →
    let pos : F := 0x7F800000#32
    let neg : F := 0xFF800000#32
    fle x pos = true ∧ flt pos x = false ∧ (flt x pos = true ↔ x ≠ pos) ∧ (fle pos x = true ↔ x = pos) ∧
    (feq x pos = true ↔ x = pos) ∧ (feq pos x = true ↔ x = pos) ∧
    fle neg x = true ∧ flt x neg = false ∧ (flt neg x = true ↔ x ≠ neg) ∧ (fle x neg = true ↔ x = neg) ∧
    (feq x neg = true ↔ x = neg) ∧ (feq neg x = true ↔ x = neg))

/-- R91, R102 to R104: U32toF rounds to nearest; the 16-bit conversions are exact and invert each other; F2Q and F2I
truncate toward zero and saturate, take the infinities to the ends of the range and every NaN to 0. -/
def Obligations.SampleConversionsAreExact : Prop :=
  (∀ n : Int, -32768 ≤ n → n ≤ 32767 →
    fReal (i16ToF n) = n * 2 ^ 149 ∧ fReal (q2f n) * 32768 = n * 2 ^ 149 ∧
    f2q (q2f n) = n ∧ f2i (i16ToF n) = n) ∧
  (∀ n : Nat, n < 2 ^ 32 → RoundsTo (u32ToF n) false (n * 2 ^ 149) 1) ∧
  (∀ x : F, fIsFinite x = true →
    f2q x = min 32767 (max (-32768) ((fReal x * 32768).tdiv (2 ^ 149))) ∧
    f2i x = min 32767 (max (-32768) ((fReal x).tdiv (2 ^ 149)))) ∧
  f2q 0x7F800000#32 = 32767 ∧ f2i 0x7F800000#32 = 32767 ∧
  f2q 0xFF800000#32 = -32768 ∧ f2i 0xFF800000#32 = -32768 ∧
  (∀ x : F, fIsNaN x = true → f2q x = 0 ∧ f2i x = 0)

/-- R9: `pow2ceil n` is the least power of two that is ≥ max(n, 1). -/
def Obligations.Pow2ceilIsLeastPower : Prop :=
  ∀ n : Nat, (∃ k, pow2ceil n = 2 ^ k) ∧ max n 1 ≤ pow2ceil n ∧ ∀ j, max n 1 ≤ 2 ^ j → pow2ceil n ≤ 2 ^ j

/-- R97: QSIN at its end points and at the three reference points of the spec. -/
def Obligations.QsinReferencePoints : Prop :=
  qsin fZero = fZero ∧ qsin fOne = fOne ∧ qsin 0x3E800000#32 = 0x3EC3EF15#32 ∧
  qsin fHalf = 0x3F3504F3#32 ∧ qsin 0x3F400000#32 = 0x3F6C835E#32

/-- R97: QSIN lies in [0, 1]. -/
def Obligations.QsinInUnitRange : Prop :=
  ∀ u : F, fle fZero (qsin u) = true ∧ fle (qsin u) fOne = true

/-- R97: QSIN is the sine of a quarter turn to within one unit of the last place at 1. -/
def Obligations.QsinApproximatesTheSine : Prop :=
  ∀ u : F, fle fZero u = true → fle u fOne = true →
    |(fReal (qsin u) : ℝ) / 2 ^ 149 - Real.sin ((fReal u : ℝ) / 2 ^ 149 * (Real.pi / 2))| ≤ 1 / 2 ^ 24
end

