-- ==== Sys2Proof/Laws/Float.lean ====
section
/-!
SUPPORT. Small laws of the binary32 fields: packing and unpacking, the generated NaN, the bounds of the rounded magnitude and
of the bit length.
-/

namespace Sys2Proof.Machine

/- One declaration after another: few threads. -/
set_option Elab.async false

theorem fMag_lt (x : F) : fMag x < 2 ^ 31 := Nat.mod_lt _ (by norm_num)

theorem fPack_toNat (s : Bool) {mag : Nat} (h : mag < 2 ^ 31) :
    (fPack s mag).toNat = (if s then 2 ^ 31 else 0) + mag := by
  unfold fPack
  rw [BitVec.toNat_ofNat]
  cases s <;> simp <;> omega

/-- Unpacking the magnitude of a packed pattern. -/
theorem fMag_fPack (s : Bool) {mag : Nat} (h : mag < 2 ^ 31) : fMag (fPack s mag) = mag := by
  unfold fMag
  rw [fPack_toNat s h]
  cases s <;> simp <;> omega

/-- Unpacking the sign of a packed pattern. -/
theorem fSign_fPack (s : Bool) {mag : Nat} (h : mag < 2 ^ 31) : fSign (fPack s mag) = s := by
  unfold fSign
  rw [fPack_toNat s h]
  cases s
  · simp only [Bool.false_eq_true, if_false, decide_eq_false_iff_not]
    omega
  · simp

/-- A pattern is its sign and its magnitude. -/
theorem fPack_fSign_fMag (x : F) : fPack (fSign x) (fMag x) = x := by
  apply BitVec.eq_of_toNat_eq
  rw [fPack_toNat _ (fMag_lt x)]
  unfold fSign fMag
  have := x.isLt
  by_cases h : 2 ^ 31 ≤ x.toNat
  · rw [decide_eq_true h, if_pos rfl]
    omega
  · rw [decide_eq_false h, if_neg Bool.false_ne_true]
    omega

theorem roundMag_le (m k : Nat) : roundMag m k ≤ fInfMag := Nat.min_le_left _ _

theorem fMag_fPack_roundMag (s : Bool) (m k : Nat) : fMag (fPack s (roundMag m k)) = roundMag m k := by
  apply fMag_fPack
  have := roundMag_le m k
  unfold fInfMag at this
  omega

/-- A rounded result is never a NaN. -/
@[simp] theorem fIsNaN_fPack_roundMag (s : Bool) (m k : Nat) : fIsNaN (fPack s (roundMag m k)) = false := by
  unfold fIsNaN
  rw [fMag_fPack_roundMag]
  have := roundMag_le m k
  simp only [decide_eq_false_iff_not]
  omega

/-- Whatever sign and payload it has, a generated NaN is a NaN. -/
@[simp] theorem fIsNaN_fQuietNaN (b : BitVec 23) : fIsNaN (fQuietNaN b) = true := by
  have h : b.toNat % 2 ^ 22 < 2 ^ 22 := Nat.mod_lt _ (by norm_num)
  unfold fIsNaN fQuietNaN
  rw [fMag_fPack _ (by omega)]
  unfold fInfMag
  simp only [decide_eq_true_eq]
  omega

/-- A generated NaN is quiet. -/
@[simp] theorem fIsQuietNaN_fQuietNaN (b : BitVec 23) : fIsQuietNaN (fQuietNaN b) = true := by
  have h : b.toNat % 2 ^ 22 < 2 ^ 22 := Nat.mod_lt _ (by norm_num)
  unfold fIsQuietNaN
  rw [fIsNaN_fQuietNaN, Bool.true_and, BitVec.getLsbD, Nat.testBit_eq_decide_div_mod_eq, decide_eq_true_iff]
  unfold fQuietNaN
  rw [fPack_toNat _ (by omega)]
  split_ifs <;> omega

@[simp] theorem fIsQuietNaN_fNaN (op : FpOp) (x y : F) : fIsQuietNaN (fNaN op x y) = true := fIsQuietNaN_fQuietNaN _

@[simp] theorem fIsNaN_fNaN (op : FpOp) (x y : F) : fIsNaN (fNaN op x y) = true := fIsNaN_fQuietNaN _

@[simp] theorem fMag_fNeg (x : F) : fMag (fNeg x) = fMag x := fMag_fPack _ (fMag_lt x)

@[simp] theorem fSign_fNeg (x : F) : fSign (fNeg x) = !fSign x := fSign_fPack _ (fMag_lt x)

@[simp] theorem fUnits_fNeg (x : F) : fUnits (fNeg x) = fUnits x := by
  unfold fUnits
  rw [fMag_fNeg]

@[simp] theorem fReal_fNeg (x : F) : fReal (fNeg x) = -fReal x := by
  unfold fReal
  rw [fSign_fNeg, fUnits_fNeg]
  cases fSign x <;> simp

/-- A number lies below the power of two of its bit length. -/
theorem lt_two_pow_bitLength (m : Nat) : m < 2 ^ bitLength m := by
  unfold bitLength
  split_ifs with h
  · simp [h]
  · exact Nat.lt_log2_self

/-- A number other than 0 reaches the power of two one below its bit length. -/
theorem two_pow_le_of_bitLength {m : Nat} (h : m ≠ 0) : 2 ^ (bitLength m - 1) ≤ m := by
  unfold bitLength
  rw [if_neg h]
  exact Nat.log2_self_le h

/-- Rounding to a whole number moves by less than one. -/
theorem roundShift_bounds (m k : Nat) : m / 2 ^ k ≤ roundShift m k ∧ roundShift m k ≤ m / 2 ^ k + 1 := by
  unfold roundShift
  dsimp only
  split_ifs <;> omega

/-- The comparisons agree: `x >= y` or `x < y` for values that are not NaN. -/
theorem fle_or_flt {x y : F} (hx : fIsNaN x = false) (hy : fIsNaN y = false) : fle y x = !flt x y := by
  rw [Bool.eq_iff_iff]
  simp [fle, flt, hx, hy]

end Sys2Proof.Machine
end

