-- ==== Sys2Proof/Laws/Memory.lean ====
section
/-!
SUPPORT. The laws of the RAMs: read after write and fill, every other word unchanged, and every operation keeps the
canonical form and the physical bound.
-/

namespace Sys2Proof.Machine

/- One declaration after another: few threads. -/
set_option Elab.async false

variable {w : Nat}

theorem cellsLookup_insert_same (i : Nat) (v : BitVec w) (l : List (Nat × BitVec w)) :
    cellsLookup (cellsInsert i v l) i = some v := by
  induction l with
  | nil => simp [cellsInsert, cellsLookup]
  | cons c rest ih =>
    obtain ⟨a, x⟩ := c
    simp only [cellsInsert]
    split_ifs with h1 h2
    · simp [cellsLookup]
    · simp [cellsLookup]
    · simp [cellsLookup, h2, ih]

theorem cellsLookup_insert_other {i j : Nat} (h : j ≠ i) (v : BitVec w) (l : List (Nat × BitVec w)) :
    cellsLookup (cellsInsert i v l) j = cellsLookup l j := by
  induction l with
  | nil => simp [cellsInsert, cellsLookup, Ne.symm h]
  | cons c rest ih =>
    obtain ⟨a, x⟩ := c
    simp only [cellsInsert]
    split_ifs with h1 h2
    · simp [cellsLookup, Ne.symm h]
    · subst h2
      simp [cellsLookup, Ne.symm h]
    · simp [cellsLookup, ih]

theorem cellsLookup_append (l k : List (Nat × BitVec w)) (i : Nat) :
    cellsLookup (l ++ k) i = (cellsLookup l i).or (cellsLookup k i) := by
  induction l with
  | nil => simp [cellsLookup]
  | cons c rest ih =>
    obtain ⟨a, x⟩ := c
    by_cases h : a = i <;> simp [cellsLookup, h, ih]

theorem cellsLookup_map (v : BitVec w) (l : List Nat) (i : Nat) :
    cellsLookup (l.map (fun k => (k, v))) i = if i ∈ l then some v else none := by
  induction l with
  | nil => simp [cellsLookup]
  | cons a rest ih =>
    by_cases h : a = i
    · simp [cellsLookup, h]
    · simp [cellsLookup, h, Ne.symm h, ih]

theorem cellsLookup_filter (n : Nat) (l : List (Nat × BitVec w)) {i : Nat} (h : n ≤ i) :
    cellsLookup (l.filter (fun c => decide (n ≤ c.1))) i = cellsLookup l i := by
  induction l with
  | nil => rfl
  | cons c rest ih =>
    obtain ⟨a, x⟩ := c
    by_cases hn : n ≤ a
    · simp [cellsLookup, hn, ih]
    · have : a ≠ i := by omega
      simp [cellsLookup, hn, ih, this]

/-- A read after a write to the same word gives the value written. -/
@[simp] theorem Ram.read_write_same (m : Ram w) (i : Nat) (v : BitVec w) : (m.write i v).read i = v := by
  simp [Ram.read, Ram.write, cellsLookup_insert_same]

/-- A write leaves every other word alone. -/
theorem Ram.read_write_other (m : Ram w) {i j : Nat} (h : j ≠ i) (v : BitVec w) :
    (m.write i v).read j = m.read j := by
  simp [Ram.read, Ram.write, cellsLookup_insert_other h, Ram.unwritten]

/-- A fill writes every word below its bound. -/
theorem Ram.read_fill_below (m : Ram w) {n i : Nat} (h : i < n) (v : BitVec w) : (m.fill n v).read i = v := by
  simp [Ram.read, Ram.fill, cellsLookup_append, cellsLookup_map, h]

/-- A fill leaves every word at or above its bound alone. -/
theorem Ram.read_fill_above (m : Ram w) {n i : Nat} (h : n ≤ i) (v : BitVec w) :
    (m.fill n v).read i = m.read i := by
  have : ¬ i < n := by omega
  simp [Ram.read, Ram.fill, cellsLookup_append, cellsLookup_map, this, cellsLookup_filter n m.cells h,
    Ram.unwritten]

theorem cellsInsert_mem {i : Nat} {v : BitVec w} {l : List (Nat × BitVec w)} {c : Nat × BitVec w}
    (h : c ∈ cellsInsert i v l) : c = (i, v) ∨ c ∈ l := by
  induction l with
  | nil => exact .inl (by simpa [cellsInsert] using h)
  | cons d rest ih =>
    obtain ⟨a, x⟩ := d
    simp only [cellsInsert] at h
    split_ifs at h with h1 h2
    · simpa using h
    · rcases List.mem_cons.1 h with h | h
      · exact .inl h
      · exact .inr (List.mem_cons_of_mem _ h)
    · rcases List.mem_cons.1 h with h | h
      · exact .inr (h ▸ List.mem_cons_self ..)
      · exact (ih h).imp_right (List.mem_cons_of_mem _)

theorem cellsInsert_sorted (i : Nat) (v : BitVec w) (l : List (Nat × BitVec w))
    (h : l.Pairwise (fun a b => a.1 < b.1)) : (cellsInsert i v l).Pairwise (fun a b => a.1 < b.1) := by
  induction l with
  | nil => simp [cellsInsert]
  | cons d rest ih =>
    obtain ⟨a, x⟩ := d
    obtain ⟨hd, hr⟩ := List.pairwise_cons.1 h
    simp only [cellsInsert]
    split_ifs with h1 h2
    · refine List.pairwise_cons.2 ⟨fun c hc => ?_, h⟩
      rcases List.mem_cons.1 hc with rfl | hc
      · exact h1
      · exact lt_trans h1 (hd c hc)
    · subst h2
      exact List.pairwise_cons.2 ⟨hd, hr⟩
    · refine List.pairwise_cons.2 ⟨fun c hc => ?_, ih hr⟩
      rcases cellsInsert_mem hc with rfl | hc
      · exact lt_of_le_of_ne (not_lt.1 h1) h2
      · exact hd c hc

theorem Ram.wf_iff (m : Ram w) : m.wf = true ↔ m.cells.Pairwise (fun a b => a.1 < b.1) := decide_eq_true_iff

/-- A write keeps the canonical form. -/
theorem Ram.wf_write {m : Ram w} (h : m.wf = true) (i : Nat) (v : BitVec w) : (m.write i v).wf = true :=
  (Ram.wf_iff _).2 (cellsInsert_sorted i v m.cells ((Ram.wf_iff m).1 h))

/-- A fill keeps the canonical form. -/
theorem Ram.wf_fill {m : Ram w} (h : m.wf = true) (n : Nat) (v : BitVec w) : (m.fill n v).wf = true := by
  refine (Ram.wf_iff _).2 (List.pairwise_append.2 ⟨?_, ((Ram.wf_iff m).1 h).filter _, ?_⟩)
  · exact List.pairwise_map.2 List.pairwise_lt_range
  · rintro a ha b hb
    obtain ⟨k, hk, rfl⟩ := List.mem_map.1 ha
    have h1 := List.mem_range.1 hk
    have h2 := (List.mem_filter.1 hb).2
    simp only [decide_eq_true_eq] at h2
    show k < b.1
    omega

/-- A RAM whose contents are unspecified is in canonical form. -/
@[simp] theorem Ram.wf_unspecified (seed : Nat) : (Ram.unspecified seed : Ram w).wf = true := rfl

/-- A write of an existing word keeps the physical bound. -/
theorem Ram.within_write {m : Ram w} {words i : Nat} (h : m.within words = true) (hi : i < words) (v : BitVec w) :
    (m.write i v).within words = true := by
  simp only [Ram.within, Ram.write, List.all_eq_true, decide_eq_true_eq] at h ⊢
  intro c hc
  rcases cellsInsert_mem hc with rfl | hc
  · exact hi
  · exact h c hc

/-- A fill of existing words keeps the physical bound. -/
theorem Ram.within_fill {m : Ram w} {words n : Nat} (h : m.within words = true) (hn : n ≤ words) (v : BitVec w) :
    (m.fill n v).within words = true := by
  simp only [Ram.within, Ram.fill, List.all_eq_true, decide_eq_true_eq] at h ⊢
  intro c hc
  rcases List.mem_append.1 hc with hc | hc
  · obtain ⟨k, hk, rfl⟩ := List.mem_map.1 hc
    have := List.mem_range.1 hk
    show k < words
    omega
  · exact h c (List.mem_filter.1 hc).1

@[simp] theorem Ram.within_unspecified (seed words : Nat) :
    (Ram.unspecified seed : Ram w).within words = true := rfl

end Sys2Proof.Machine
end

