-- ==== Sys2Proof/Laws/State.lean ====
section
/-!
SUPPORT. One lemma per field per update of the state, so that no proof unfolds a record update.
-/

namespace Sys2Proof.Machine

/- One declaration after another: few threads. -/
set_option Elab.async false

/-! ### `respond` -/

@[simp] theorem State.respond_cfg (s : State) (r : Response) (v : Word) : (s.respond r v).cfg = s.cfg := rfl

@[simp] theorem State.respond_pending (s : State) (r : Response) (v : Word) : (s.respond r v).pending = s.pending := rfl

@[simp] theorem State.respond_port (s : State) (r : Response) (v : Word) :
    (s.respond r v).port = { s.port with resp := BitVec.ofNat 4 r.code, rdata := v } := rfl

@[simp] theorem State.respond_samples (s : State) (r : Response) (v : Word) : (s.respond r v).samples = s.samples := rfl

@[simp] theorem State.respond_xfade (s : State) (r : Response) (v : Word) : (s.respond r v).xfade = s.xfade := rfl

@[simp] theorem State.respond_wetdry (s : State) (r : Response) (v : Word) : (s.respond r v).wetdry = s.wetdry := rfl

@[simp] theorem State.respond_arg0 (s : State) (r : Response) (v : Word) : (s.respond r v).arg0 = s.arg0 := rfl

@[simp] theorem State.respond_arg1 (s : State) (r : Response) (v : Word) : (s.respond r v).arg1 = s.arg1 := rfl

@[simp] theorem State.respond_echo (s : State) (r : Response) (v : Word) : (s.respond r v).echo = s.echo := rfl

@[simp] theorem State.respond_reverb (s : State) (r : Response) (v : Word) : (s.respond r v).reverb = s.reverb := rfl

@[simp] theorem State.respond_rs0 (s : State) (r : Response) (v : Word) : (s.respond r v).rs0 = s.rs0 := rfl

@[simp] theorem State.respond_rs1 (s : State) (r : Response) (v : Word) : (s.respond r v).rs1 = s.rs1 := rfl

@[simp] theorem State.respond_status (s : State) (r : Response) (v : Word) : (s.respond r v).status = s.status := rfl

@[simp] theorem State.respond_freeCount (s : State) (r : Response) (v : Word) : (s.respond r v).freeCount = s.freeCount := rfl

/-! ### `respondOk` -/

@[simp] theorem State.respondOk_cfg (s : State) : (s.respondOk).cfg = s.cfg := rfl

@[simp] theorem State.respondOk_pending (s : State) : (s.respondOk).pending = s.pending := rfl

@[simp] theorem State.respondOk_port (s : State) :
    (s.respondOk).port = { s.port with resp := 0#4, rdata := 0#32 } := rfl

@[simp] theorem State.respondOk_samples (s : State) : (s.respondOk).samples = s.samples := rfl

@[simp] theorem State.respondOk_xfade (s : State) : (s.respondOk).xfade = s.xfade := rfl

@[simp] theorem State.respondOk_wetdry (s : State) : (s.respondOk).wetdry = s.wetdry := rfl

@[simp] theorem State.respondOk_arg0 (s : State) : (s.respondOk).arg0 = s.arg0 := rfl

@[simp] theorem State.respondOk_arg1 (s : State) : (s.respondOk).arg1 = s.arg1 := rfl

@[simp] theorem State.respondOk_echo (s : State) : (s.respondOk).echo = s.echo := rfl

@[simp] theorem State.respondOk_reverb (s : State) : (s.respondOk).reverb = s.reverb := rfl

@[simp] theorem State.respondOk_rs0 (s : State) : (s.respondOk).rs0 = s.rs0 := rfl

@[simp] theorem State.respondOk_rs1 (s : State) : (s.respondOk).rs1 = s.rs1 := rfl

@[simp] theorem State.respondOk_status (s : State) : (s.respondOk).status = s.status := rfl

@[simp] theorem State.respondOk_freeCount (s : State) : (s.respondOk).freeCount = s.freeCount := rfl

/-! ### `setEchoOut` -/

@[simp] theorem State.setEchoOut_cfg (s : State) (l r : F) : (s.setEchoOut l r).cfg = s.cfg := rfl

@[simp] theorem State.setEchoOut_pending (s : State) (l r : F) : (s.setEchoOut l r).pending = s.pending := rfl

@[simp] theorem State.setEchoOut_port (s : State) (l r : F) : (s.setEchoOut l r).port = s.port := rfl

@[simp] theorem State.setEchoOut_samples (s : State) (l r : F) :
    (s.setEchoOut l r).samples = { s.samples with r2 := l, r3 := r } := rfl

@[simp] theorem State.setEchoOut_xfade (s : State) (l r : F) : (s.setEchoOut l r).xfade = s.xfade := rfl

@[simp] theorem State.setEchoOut_wetdry (s : State) (l r : F) : (s.setEchoOut l r).wetdry = s.wetdry := rfl

@[simp] theorem State.setEchoOut_arg0 (s : State) (l r : F) : (s.setEchoOut l r).arg0 = s.arg0 := rfl

@[simp] theorem State.setEchoOut_arg1 (s : State) (l r : F) : (s.setEchoOut l r).arg1 = s.arg1 := rfl

@[simp] theorem State.setEchoOut_echo (s : State) (l r : F) : (s.setEchoOut l r).echo = s.echo := rfl

@[simp] theorem State.setEchoOut_reverb (s : State) (l r : F) : (s.setEchoOut l r).reverb = s.reverb := rfl

@[simp] theorem State.setEchoOut_rs0 (s : State) (l r : F) : (s.setEchoOut l r).rs0 = s.rs0 := rfl

@[simp] theorem State.setEchoOut_rs1 (s : State) (l r : F) : (s.setEchoOut l r).rs1 = s.rs1 := rfl

@[simp] theorem State.setEchoOut_status (s : State) (l r : F) : (s.setEchoOut l r).status = s.status := rfl

@[simp] theorem State.setEchoOut_freeCount (s : State) (l r : F) : (s.setEchoOut l r).freeCount = s.freeCount := rfl

/-! ### `setReverbOut` -/

@[simp] theorem State.setReverbOut_cfg (s : State) (l r : F) : (s.setReverbOut l r).cfg = s.cfg := rfl

@[simp] theorem State.setReverbOut_pending (s : State) (l r : F) : (s.setReverbOut l r).pending = s.pending := rfl

@[simp] theorem State.setReverbOut_port (s : State) (l r : F) : (s.setReverbOut l r).port = s.port := rfl

@[simp] theorem State.setReverbOut_samples (s : State) (l r : F) :
    (s.setReverbOut l r).samples = { s.samples with r4 := l, r5 := r } := rfl

@[simp] theorem State.setReverbOut_xfade (s : State) (l r : F) : (s.setReverbOut l r).xfade = s.xfade := rfl

@[simp] theorem State.setReverbOut_wetdry (s : State) (l r : F) : (s.setReverbOut l r).wetdry = s.wetdry := rfl

@[simp] theorem State.setReverbOut_arg0 (s : State) (l r : F) : (s.setReverbOut l r).arg0 = s.arg0 := rfl

@[simp] theorem State.setReverbOut_arg1 (s : State) (l r : F) : (s.setReverbOut l r).arg1 = s.arg1 := rfl

@[simp] theorem State.setReverbOut_echo (s : State) (l r : F) : (s.setReverbOut l r).echo = s.echo := rfl

@[simp] theorem State.setReverbOut_reverb (s : State) (l r : F) : (s.setReverbOut l r).reverb = s.reverb := rfl

@[simp] theorem State.setReverbOut_rs0 (s : State) (l r : F) : (s.setReverbOut l r).rs0 = s.rs0 := rfl

@[simp] theorem State.setReverbOut_rs1 (s : State) (l r : F) : (s.setReverbOut l r).rs1 = s.rs1 := rfl

@[simp] theorem State.setReverbOut_status (s : State) (l r : F) : (s.setReverbOut l r).status = s.status := rfl

@[simp] theorem State.setReverbOut_freeCount (s : State) (l r : F) : (s.setReverbOut l r).freeCount = s.freeCount := rfl

/-! ### `setFrameOut` -/

@[simp] theorem State.setFrameOut_cfg (s : State) (l r : F) : (s.setFrameOut l r).cfg = s.cfg := rfl

@[simp] theorem State.setFrameOut_pending (s : State) (l r : F) : (s.setFrameOut l r).pending = s.pending := rfl

@[simp] theorem State.setFrameOut_port (s : State) (l r : F) : (s.setFrameOut l r).port = s.port := rfl

@[simp] theorem State.setFrameOut_samples (s : State) (l r : F) :
    (s.setFrameOut l r).samples = { s.samples with r6 := l, r7 := r } := rfl

@[simp] theorem State.setFrameOut_xfade (s : State) (l r : F) : (s.setFrameOut l r).xfade = s.xfade := rfl

@[simp] theorem State.setFrameOut_wetdry (s : State) (l r : F) : (s.setFrameOut l r).wetdry = s.wetdry := rfl

@[simp] theorem State.setFrameOut_arg0 (s : State) (l r : F) : (s.setFrameOut l r).arg0 = s.arg0 := rfl

@[simp] theorem State.setFrameOut_arg1 (s : State) (l r : F) : (s.setFrameOut l r).arg1 = s.arg1 := rfl

@[simp] theorem State.setFrameOut_echo (s : State) (l r : F) : (s.setFrameOut l r).echo = s.echo := rfl

@[simp] theorem State.setFrameOut_reverb (s : State) (l r : F) : (s.setFrameOut l r).reverb = s.reverb := rfl

@[simp] theorem State.setFrameOut_rs0 (s : State) (l r : F) : (s.setFrameOut l r).rs0 = s.rs0 := rfl

@[simp] theorem State.setFrameOut_rs1 (s : State) (l r : F) : (s.setFrameOut l r).rs1 = s.rs1 := rfl

@[simp] theorem State.setFrameOut_status (s : State) (l r : F) : (s.setFrameOut l r).status = s.status := rfl

@[simp] theorem State.setFrameOut_freeCount (s : State) (l r : F) : (s.setFrameOut l r).freeCount = s.freeCount := rfl

/-! ### `setRsOut` -/

@[simp] theorem State.setRsOut_cfg (s : State) (u : RsId) (l r : F) : (s.setRsOut u l r).cfg = s.cfg := by cases u <;> rfl

@[simp] theorem State.setRsOut_pending (s : State) (u : RsId) (l r : F) : (s.setRsOut u l r).pending = s.pending := by cases u <;> rfl

@[simp] theorem State.setRsOut_port (s : State) (u : RsId) (l r : F) : (s.setRsOut u l r).port = s.port := by cases u <;> rfl

@[simp] theorem State.setRsOut_xfade (s : State) (u : RsId) (l r : F) : (s.setRsOut u l r).xfade = s.xfade := by cases u <;> rfl

@[simp] theorem State.setRsOut_wetdry (s : State) (u : RsId) (l r : F) : (s.setRsOut u l r).wetdry = s.wetdry := by cases u <;> rfl

@[simp] theorem State.setRsOut_arg0 (s : State) (u : RsId) (l r : F) : (s.setRsOut u l r).arg0 = s.arg0 := by cases u <;> rfl

@[simp] theorem State.setRsOut_arg1 (s : State) (u : RsId) (l r : F) : (s.setRsOut u l r).arg1 = s.arg1 := by cases u <;> rfl

@[simp] theorem State.setRsOut_echo (s : State) (u : RsId) (l r : F) : (s.setRsOut u l r).echo = s.echo := by cases u <;> rfl

@[simp] theorem State.setRsOut_reverb (s : State) (u : RsId) (l r : F) : (s.setRsOut u l r).reverb = s.reverb := by cases u <;> rfl

@[simp] theorem State.setRsOut_rs0 (s : State) (u : RsId) (l r : F) : (s.setRsOut u l r).rs0 = s.rs0 := by cases u <;> rfl

@[simp] theorem State.setRsOut_rs1 (s : State) (u : RsId) (l r : F) : (s.setRsOut u l r).rs1 = s.rs1 := by cases u <;> rfl

@[simp] theorem State.setRsOut_status (s : State) (u : RsId) (l r : F) : (s.setRsOut u l r).status = s.status := by cases u <;> rfl

@[simp] theorem State.setRsOut_freeCount (s : State) (u : RsId) (l r : F) : (s.setRsOut u l r).freeCount = s.freeCount := by cases u <;> rfl

/-! ### `setRs` -/

@[simp] theorem State.setRs_cfg (s : State) (u : RsId) (x : Rs) : (s.setRs u x).cfg = s.cfg := by cases u <;> rfl

@[simp] theorem State.setRs_pending (s : State) (u : RsId) (x : Rs) : (s.setRs u x).pending = s.pending := by cases u <;> rfl

@[simp] theorem State.setRs_port (s : State) (u : RsId) (x : Rs) : (s.setRs u x).port = s.port := by cases u <;> rfl

@[simp] theorem State.setRs_samples (s : State) (u : RsId) (x : Rs) : (s.setRs u x).samples = s.samples := by cases u <;> rfl

@[simp] theorem State.setRs_xfade (s : State) (u : RsId) (x : Rs) : (s.setRs u x).xfade = s.xfade := by cases u <;> rfl

@[simp] theorem State.setRs_wetdry (s : State) (u : RsId) (x : Rs) : (s.setRs u x).wetdry = s.wetdry := by cases u <;> rfl

@[simp] theorem State.setRs_arg0 (s : State) (u : RsId) (x : Rs) : (s.setRs u x).arg0 = s.arg0 := by cases u <;> rfl

@[simp] theorem State.setRs_arg1 (s : State) (u : RsId) (x : Rs) : (s.setRs u x).arg1 = s.arg1 := by cases u <;> rfl

@[simp] theorem State.setRs_echo (s : State) (u : RsId) (x : Rs) : (s.setRs u x).echo = s.echo := by cases u <;> rfl

@[simp] theorem State.setRs_reverb (s : State) (u : RsId) (x : Rs) : (s.setRs u x).reverb = s.reverb := by cases u <;> rfl

@[simp] theorem State.setRs_status (s : State) (u : RsId) (x : Rs) : (s.setRs u x).status = s.status := by cases u <;> rfl

@[simp] theorem State.setRs_freeCount (s : State) (u : RsId) (x : Rs) : (s.setRs u x).freeCount = s.freeCount := by cases u <;> rfl

/-! ### `present` -/

@[simp] theorem State.present_cfg (s : State) (rest : List HostEvent) (c w : Word) : (s.present rest c w).cfg = s.cfg := rfl

@[simp] theorem State.present_pending (s : State) (rest : List HostEvent) (c w : Word) :
    (s.present rest c w).pending = rest := rfl

@[simp] theorem State.present_port (s : State) (rest : List HostEvent) (c w : Word) :
    (s.present rest c w).port = { s.port with cmd := c, wdata := w } := rfl

@[simp] theorem State.present_samples (s : State) (rest : List HostEvent) (c w : Word) : (s.present rest c w).samples = s.samples := rfl

@[simp] theorem State.present_xfade (s : State) (rest : List HostEvent) (c w : Word) : (s.present rest c w).xfade = s.xfade := rfl

@[simp] theorem State.present_wetdry (s : State) (rest : List HostEvent) (c w : Word) : (s.present rest c w).wetdry = s.wetdry := rfl

@[simp] theorem State.present_arg0 (s : State) (rest : List HostEvent) (c w : Word) : (s.present rest c w).arg0 = s.arg0 := rfl

@[simp] theorem State.present_arg1 (s : State) (rest : List HostEvent) (c w : Word) : (s.present rest c w).arg1 = s.arg1 := rfl

@[simp] theorem State.present_echo (s : State) (rest : List HostEvent) (c w : Word) : (s.present rest c w).echo = s.echo := rfl

@[simp] theorem State.present_reverb (s : State) (rest : List HostEvent) (c w : Word) : (s.present rest c w).reverb = s.reverb := rfl

@[simp] theorem State.present_rs0 (s : State) (rest : List HostEvent) (c w : Word) : (s.present rest c w).rs0 = s.rs0 := rfl

@[simp] theorem State.present_rs1 (s : State) (rest : List HostEvent) (c w : Word) : (s.present rest c w).rs1 = s.rs1 := rfl

@[simp] theorem State.present_status (s : State) (rest : List HostEvent) (c w : Word) : (s.present rest c w).status = s.status := rfl

@[simp] theorem State.present_freeCount (s : State) (rest : List HostEvent) (c w : Word) : (s.present rest c w).freeCount = s.freeCount := rfl

/-! ### `takeError` -/

@[simp] theorem State.takeError_cfg (s : State) (e : Response) (u : Option UnitId) : (s.takeError e u).cfg = s.cfg := by cases u <;> rfl

@[simp] theorem State.takeError_pending (s : State) (e : Response) (u : Option UnitId) : (s.takeError e u).pending = s.pending := by cases u <;> rfl

@[simp] theorem State.takeError_port (s : State) (e : Response) (u : Option UnitId) :
    (s.takeError e u).port = { s.port with resp := BitVec.ofNat 4 e.code, rdata := 0#32 } := by cases u <;> rfl

@[simp] theorem State.takeError_samples (s : State) (e : Response) (u : Option UnitId) : (s.takeError e u).samples = s.samples := by cases u <;> rfl

@[simp] theorem State.takeError_xfade (s : State) (e : Response) (u : Option UnitId) : (s.takeError e u).xfade = s.xfade := by cases u <;> rfl

@[simp] theorem State.takeError_wetdry (s : State) (e : Response) (u : Option UnitId) : (s.takeError e u).wetdry = s.wetdry := by cases u <;> rfl

@[simp] theorem State.takeError_arg0 (s : State) (e : Response) (u : Option UnitId) : (s.takeError e u).arg0 = s.arg0 := by cases u <;> rfl

@[simp] theorem State.takeError_arg1 (s : State) (e : Response) (u : Option UnitId) : (s.takeError e u).arg1 = s.arg1 := by cases u <;> rfl

@[simp] theorem State.takeError_echo (s : State) (e : Response) (u : Option UnitId) : (s.takeError e u).echo = s.echo := by cases u <;> rfl

@[simp] theorem State.takeError_reverb (s : State) (e : Response) (u : Option UnitId) : (s.takeError e u).reverb = s.reverb := by cases u <;> rfl

@[simp] theorem State.takeError_rs0 (s : State) (e : Response) (u : Option UnitId) : (s.takeError e u).rs0 = s.rs0 := by cases u <;> rfl

@[simp] theorem State.takeError_rs1 (s : State) (e : Response) (u : Option UnitId) : (s.takeError e u).rs1 = s.rs1 := by cases u <;> rfl

@[simp] theorem State.takeError_freeCount (s : State) (e : Response) (u : Option UnitId) : (s.takeError e u).freeCount = s.freeCount := by cases u <;> rfl

/-! ### Register access and READY bits -/

theorem State.takeError_none (s : State) (e : Response) : s.takeError e none = s.respond e 0#32 := rfl

theorem State.takeError_some_status (s : State) (e : Response) (u : UnitId) :
    (s.takeError e (some u)).status = (s.status.latchFatal (BitVec.ofNat 8 e.code)).setReady u false := rfl

@[simp] theorem State.rs_setRs_same (s : State) (u : RsId) (x : Rs) : (s.setRs u x).rs u = x := by
  cases u <;> rfl

theorem State.rs_setRs_other (s : State) {u v : RsId} (h : v ≠ u) (x : Rs) : (s.setRs u x).rs v = s.rs v := by
  cases u <;> cases v <;> first | rfl | exact absurd rfl h

@[simp] theorem State.rs_respond (s : State) (r : Response) (v : Word) (u : RsId) : (s.respond r v).rs u = s.rs u := by
  cases u <;> rfl

@[simp] theorem State.rs_respondOk (s : State) (u : RsId) : s.respondOk.rs u = s.rs u := by
  cases u <;> rfl

@[simp] theorem State.readReg_respond (s : State) (r : Response) (v : Word) (a : Reg) :
    (s.respond r v).readReg a = s.readReg a := by
  cases a with
  | rs u k => cases u <;> rfl
  | _ => rfl

@[simp] theorem State.readReg_respondOk (s : State) (a : Reg) : s.respondOk.readReg a = s.readReg a :=
  s.readReg_respond .ok 0#32 a

@[simp] theorem Status.setReady_fatal (st : Status) (u : UnitId) (b : Bool) : (st.setReady u b).fatal = st.fatal := by
  rcases u with _ | _ | (_ | _) <;> rfl

@[simp] theorem Status.setReady_fcode (st : Status) (u : UnitId) (b : Bool) : (st.setReady u b).fcode = st.fcode := by
  rcases u with _ | _ | (_ | _) <;> rfl

@[simp] theorem Status.ready_setReady_same (st : Status) (u : UnitId) (b : Bool) : (st.setReady u b).ready u = b := by
  rcases u with _ | _ | (_ | _) <;> rfl

theorem Status.ready_setReady_other (st : Status) {u v : UnitId} (h : v ≠ u) (b : Bool) :
    (st.setReady u b).ready v = st.ready v := by
  rcases u with _ | _ | (_ | _) <;> rcases v with _ | _ | (_ | _) <;> first | rfl | exact absurd rfl h

@[simp] theorem Status.latchFatal_fatal (st : Status) (c : BitVec 8) : (st.latchFatal c).fatal = true := rfl

@[simp] theorem Status.latchFatal_fcode (st : Status) (c : BitVec 8) : (st.latchFatal c).fcode = c := rfl

@[simp] theorem Status.ready_latchFatal (st : Status) (c : BitVec 8) (u : UnitId) :
    (st.latchFatal c).ready u = st.ready u := by
  rcases u with _ | _ | (_ | _) <;> rfl

/-! ### Register files of eight -/

@[simp] theorem Bank.get_set_same {w : Nat} (b : Bank w) (i : Fin 8) (v : BitVec w) : (b.set i v).get i = v := by
  fin_cases i <;> rfl

theorem Bank.get_set_other {w : Nat} (b : Bank w) {i j : Fin 8} (h : j ≠ i) (v : BitVec w) :
    (b.set i v).get j = b.get j := by
  fin_cases i <;> fin_cases j <;> first | rfl | exact absurd rfl h

@[simp] theorem Bank.get_replicate {w : Nat} (v : BitVec w) (i : Fin 8) : (Bank.replicate v).get i = v := by
  fin_cases i <;> rfl

end Sys2Proof.Machine
end

