-- ==== Sys2Proof/Laws/Ops.lean ====
section
/-!
SUPPORT. For each shared operation, once, everything it can do: the checks of R238, the resampler loop of R125, fetching
and the step.
-/

namespace Sys2Proof.Machine

/- One declaration after another: few threads. -/
set_option Elab.async false

variable {s t : State} {e : Response} {k : Result}

/-! ## Checks -/

@[simp] theorem check_true (e : Response) (s : State) (k : Result) : check true e s k = k := rfl

@[simp] theorem check_false (e : Response) (s : State) (k : Result) :
    check false e s k = .next (s.takeError e none) := rfl

@[simp] theorem checkFatal_true (e : Response) (u : UnitId) (s : State) (k : Result) :
    checkFatal true e u s k = k := rfl

@[simp] theorem checkFatal_false (e : Response) (u : UnitId) (s : State) (k : Result) :
    checkFatal false e u s k = .next (s.takeError e (some u)) := rfl

@[simp] theorem requireRam_true (f : Fault) (k : Result) : requireRam true f k = k := rfl

@[simp] theorem requireRam_false (f : Fault) (k : Result) : requireRam false f k = .fault f := rfl

theorem checkLive_of_live (h : s.status.fatal = false) : checkLive s k = k := by
  simp [checkLive, h]

theorem checkLive_of_fatal (h : s.status.fatal = true) : checkLive s k = .next (s.takeError .halted none) := by
  simp [checkLive, h]

/-- A check answers a next state in two ways: it failed and only the answer changed, or it passed. -/
theorem check_next {ok : Bool} (h : check ok e s k = .next t) :
    (ok = false ∧ t = s.takeError e none) ∨ (ok = true ∧ k = .next t) := by
  cases ok
  · simp only [check_false, Host.Outcome.next.injEq] at h
    exact .inl ⟨rfl, h.symm⟩
  · exact .inr ⟨rfl, h⟩

/-- A constructor's check answers a next state in two ways: the fatal error, or it passed. -/
theorem checkFatal_next {ok : Bool} {u : UnitId} (h : checkFatal ok e u s k = .next t) :
    (ok = false ∧ t = s.takeError e (some u)) ∨ (ok = true ∧ k = .next t) := by
  cases ok
  · simp only [checkFatal_false, Host.Outcome.next.injEq] at h
    exact .inl ⟨rfl, h.symm⟩
  · exact .inr ⟨rfl, h⟩

/-- A next state behind a RAM requirement means the requirement held. -/
theorem requireRam_next {ok : Bool} {f : Fault} (h : requireRam ok f k = .next t) : ok = true ∧ k = .next t := by
  cases ok
  · simp at h
  · exact ⟨rfl, h⟩

/-- The halt check: halted with only the answer changed, or live. -/
theorem checkLive_next (h : checkLive s k = .next t) :
    (s.status.fatal = true ∧ t = s.takeError .halted none) ∨ (s.status.fatal = false ∧ k = .next t) := by
  cases hf : s.status.fatal
  · rw [checkLive_of_live hf] at h
    exact .inr ⟨rfl, h⟩
  · rw [checkLive_of_fatal hf, Host.Outcome.next.injEq] at h
    exact .inl ⟨rfl, h.symm⟩

/-! ## The resampler loop -/

section Loop

variable {σ : Type} {producer : σ → F → F → σ × F × F} {inL inR : F}

theorem rsLoop_exit (fuel : Nat) {r : Rs} {m : σ} (h : fle r.period r.phase = false) :
    rsLoop producer inL inR fuel r m = some (r, m) := by
  cases fuel <;> simp [rsLoop, h]

theorem rsLoop_call (fuel : Nat) {r : Rs} {m : σ} (h : fle r.period r.phase = true) :
    rsLoop producer inL inR (fuel + 1) r m =
      rsLoop producer inL inR fuel (r.shift (producer m inL inR).2.1 (producer m inL inR).2.2)
        (producer m inL inR).1 := by
  simp [rsLoop, h]

/-- An induction principle for the loop: what holds at entry and is kept by every producer call holds at exit, where
the phase no longer reaches the period. -/
theorem rsLoop_induct {P : Rs → σ → Prop}
    (hcall : ∀ r m, P r m → fle r.period r.phase = true →
      P (r.shift (producer m inL inR).2.1 (producer m inL inR).2.2) (producer m inL inR).1) :
    ∀ fuel r m r' m', P r m → rsLoop producer inL inR fuel r m = some (r', m') →
      P r' m' ∧ fle r'.period r'.phase = false := by
  intro fuel
  induction fuel with
  | zero =>
    intro r m r' m' hP h
    cases hle : fle r.period r.phase with
    | true => simp [rsLoop, hle] at h
    | false =>
      rw [rsLoop_exit 0 hle, Option.some.injEq, Prod.mk.injEq] at h
      obtain ⟨rfl, rfl⟩ := h
      exact ⟨hP, hle⟩
  | succ fuel ih =>
    intro r m r' m' hP h
    cases hle : fle r.period r.phase with
    | true =>
      rw [rsLoop_call fuel hle] at h
      exact ih _ _ _ _ (hcall r m hP hle) h
    | false =>
      rw [rsLoop_exit _ hle, Option.some.injEq, Prod.mk.injEq] at h
      obtain ⟨rfl, rfl⟩ := h
      exact ⟨hP, hle⟩

/-- The loop never touches the period and the two rates. -/
theorem rsLoop_fixed {fuel : Nat} {r r' : Rs} {m m' : σ} (h : rsLoop producer inL inR fuel r m = some (r', m')) :
    r'.period = r.period ∧ r'.driving = r.driving ∧ r'.driven = r.driven :=
  (rsLoop_induct (P := fun q _ => q.period = r.period ∧ q.driving = r.driving ∧ q.driven = r.driven)
    (fun _ _ hq _ => hq) fuel r m r' m' ⟨rfl, rfl, rfl⟩ h).1

/-- What a tick of `RsProcess` that is not ended by the watchdog answers. -/
theorem rsProcess_some {r r' : Rs} {m m' : σ} {outL outR : F}
    (h : rsProcess producer r m inL inR = some (r', m', outL, outR)) :
    rsLoop producer inL inR Config.rsFuel { r with phase := fadd r.phase fOne } m = some (r', m') ∧
      (outL, outR) = r'.output := by
  unfold rsProcess at h
  split at h
  · simp at h
  · next q n heq =>
    simp only [Option.some.injEq, Prod.mk.injEq] at h
    obtain ⟨rfl, rfl, rfl, rfl⟩ := h
    exact ⟨heq, rfl⟩

end Loop

/-- What a driving tick of resampler 0 writes. -/
theorem State.rsTick_rs0 (h : s.rsTick .rs0 = some t) :
    ∃ r e l o, rsProcess Echo.tick s.rs0 s.echo s.samples.r0 s.samples.r1 = some (r, e, l, o) ∧
      t = { s with rs0 := r, echo := e }.setEchoOut l o := by
  simp only [State.rsTick] at h
  split at h
  · simp at h
  · next r e l o heq => exact ⟨r, e, l, o, heq, (Option.some.inj h).symm⟩

/-- What a driving tick of resampler 1 writes. -/
theorem State.rsTick_rs1 (h : s.rsTick .rs1 = some t) :
    ∃ r v l o, rsProcess Reverb.tick s.rs1 s.reverb s.samples.r0 s.samples.r1 = some (r, v, l, o) ∧
      t = { s with rs1 := r, reverb := v }.setReverbOut l o := by
  simp only [State.rsTick] at h
  split at h
  · simp at h
  · next r v l o heq => exact ⟨r, v, l, o, heq, (Option.some.inj h).symm⟩

/-! ## The watchdog -/

/-- What a watchdog leaves alone (U5). -/
theorem State.takeWatchdog_rest (s : State) (u : RsId) (f : Bool) :
    (s.takeWatchdog u f).cfg = s.cfg ∧ (s.takeWatchdog u f).pending = s.pending ∧
    (s.takeWatchdog u f).xfade = s.xfade ∧ (s.takeWatchdog u f).wetdry = s.wetdry ∧
    (s.takeWatchdog u f).arg0 = s.arg0 ∧ (s.takeWatchdog u f).arg1 = s.arg1 ∧
    (s.takeWatchdog u f).samples.r0 = s.samples.r0 ∧ (s.takeWatchdog u f).samples.r1 = s.samples.r1 := by
  cases u <;> cases f <;> exact ⟨rfl, rfl, rfl, rfl, rfl, rfl, rfl, rfl⟩

/-- STATUS after a watchdog is as after every fatal error (R240). -/
theorem State.takeWatchdog_status (s : State) (u : RsId) (f : Bool) :
    (s.takeWatchdog u f).status = (s.status.latchFatal 7#8).setReady (.rs u) false := by
  cases u <;> cases f <;> rfl

/-! ## Fetching and the step -/

theorem State.fetch_idle (h : s.pending = []) : s.fetch = .inl s := by
  simp [State.fetch, h]

theorem State.fetch_reset {rest : List HostEvent} (h : s.pending = .reset :: rest) :
    s.fetch = .inl { s with pending := rest }.hardReset := by
  simp [State.fetch, h]

theorem State.fetch_illegal {rest : List HostEvent} {c w : Word} (h : s.pending = .transaction c w :: rest)
    (hd : decode c = none) : s.fetch = .inl ((s.present rest c w).takeError .illegal none) := by
  simp [State.fetch, h, hd]

theorem State.fetch_command {rest : List HostEvent} {c w : Word} {i : Instr}
    (h : s.pending = .transaction c w :: rest) (hd : decode c = some i) :
    s.fetch = .inr (i, s.present rest c w) := by
  simp [State.fetch, h, hd]

/-- Everything a step can do: nothing presented, a reset, an illegal word, or one command. -/
theorem step_cases (h : step s = .next t) :
    (s.pending = [] ∧ t = s) ∨
    (∃ rest, s.pending = .reset :: rest ∧ t = { s with pending := rest }.hardReset) ∨
    (∃ rest c w, s.pending = .transaction c w :: rest ∧ decode c = none ∧
      t = (s.present rest c w).takeError .illegal none) ∨
    (∃ rest c w i, s.pending = .transaction c w :: rest ∧ decode c = some i ∧
      exec i (s.present rest c w) = .next t) := by
  unfold step at h
  match hp : s.pending with
  | [] =>
    rw [State.fetch_idle hp] at h
    exact .inl ⟨rfl, (Host.Outcome.next.inj h).symm⟩
  | .reset :: rest =>
    rw [State.fetch_reset hp] at h
    exact .inr (.inl ⟨rest, rfl, (Host.Outcome.next.inj h).symm⟩)
  | .transaction c w :: rest =>
    cases hd : decode c with
    | none =>
      rw [State.fetch_illegal hp hd] at h
      exact .inr (.inr (.inl ⟨rest, c, w, rfl, hd, (Host.Outcome.next.inj h).symm⟩))
    | some i =>
      rw [State.fetch_command hp hd] at h
      exact .inr (.inr (.inr ⟨rest, c, w, i, rfl, hd, h⟩))

end Sys2Proof.Machine
end

