-- ==== Sys2Proof/Laws/PerInstr.lean ====
section
/-!
SUPPORT. Laws stated once per command. `OpcodeByte`: the word of a well-formed command carries its opcode in bits 31:24
and its operand bits below (R72, R74).
-/

namespace Sys2Proof.Laws

/- One declaration after another: few threads. -/
set_option Elab.async false

/-- Bits 31:24 and 23:0 of the word of a well-formed command. -/
def OpcodeByte.Statement (i : Instr) : Prop :=
  i.wellFormed = true →
    (encode i).toNat / 2 ^ 24 = i.opcode ∧ (encode i).toNat % 2 ^ 24 = i.operandBits

theorem OpcodeByte.of_bounds (i : Instr) (ho : i.opcode < 2 ^ 8) (hb : i.operandBits < 2 ^ 24) :
    (encode i).toNat / 2 ^ 24 = i.opcode ∧ (encode i).toNat % 2 ^ 24 = i.operandBits := by
  unfold encode
  rw [BitVec.toNat_ofNat, Nat.mod_eq_of_lt (by omega)]
  omega

theorem OpcodeByte.of_reg {a : Nat} (h : regFieldOk a = true) : a * 2 ^ 16 < 2 ^ 24 := by
  simp only [regFieldOk, decide_eq_true_eq] at h
  omega

theorem OpcodeByte.of_preset {p : Nat} (h : presetFieldOk p = true) : p * 2 ^ 16 < 2 ^ 24 := by
  simp only [presetFieldOk, decide_eq_true_eq] at h
  omega

theorem OpcodeByte.of_index {idx : Nat} (h : indexFieldOk idx = true) : idx < 2 ^ 24 := by
  simpa only [indexFieldOk, decide_eq_true_eq] using h

theorem OpcodeByte.of_instance (u : RsId) : u.number * 2 ^ 16 < 2 ^ 24 := by
  cases u <;> decide

theorem OpcodeByte.nop : OpcodeByte.Statement .nop :=
  fun _ => OpcodeByte.of_bounds _ (by simp [Instr.opcode]) (by decide)

theorem OpcodeByte.wr (a : Nat) : OpcodeByte.Statement (.wr a) :=
  fun h => OpcodeByte.of_bounds _ (by simp [Instr.opcode]) (OpcodeByte.of_reg h)

theorem OpcodeByte.rd (a : Nat) : OpcodeByte.Statement (.rd a) :=
  fun h => OpcodeByte.of_bounds _ (by simp [Instr.opcode]) (OpcodeByte.of_reg h)

theorem OpcodeByte.ebrd (idx : Nat) : OpcodeByte.Statement (.ebrd idx) :=
  fun h => OpcodeByte.of_bounds _ (by simp [Instr.opcode]) (OpcodeByte.of_index h)

theorem OpcodeByte.ebwr (idx : Nat) : OpcodeByte.Statement (.ebwr idx) :=
  fun h => OpcodeByte.of_bounds _ (by simp [Instr.opcode]) (OpcodeByte.of_index h)

theorem OpcodeByte.wsrd (idx : Nat) : OpcodeByte.Statement (.wsrd idx) :=
  fun h => OpcodeByte.of_bounds _ (by simp [Instr.opcode]) (OpcodeByte.of_index h)

theorem OpcodeByte.wswr (idx : Nat) : OpcodeByte.Statement (.wswr idx) :=
  fun h => OpcodeByte.of_bounds _ (by simp [Instr.opcode]) (OpcodeByte.of_index h)

theorem OpcodeByte.einit : OpcodeByte.Statement .einit :=
  fun _ => OpcodeByte.of_bounds _ (by simp [Instr.opcode]) (by decide)

theorem OpcodeByte.rinit (p : Nat) : OpcodeByte.Statement (.rinit p) :=
  fun h => OpcodeByte.of_bounds _ (by simp [Instr.opcode]) (OpcodeByte.of_preset h)

theorem OpcodeByte.rsinit (u : RsId) : OpcodeByte.Statement (.rsinit u) :=
  fun _ => OpcodeByte.of_bounds _ (by simp [Instr.opcode]) (OpcodeByte.of_instance u)

theorem OpcodeByte.eclr : OpcodeByte.Statement .eclr :=
  fun _ => OpcodeByte.of_bounds _ (by simp [Instr.opcode]) (by decide)

theorem OpcodeByte.rclr : OpcodeByte.Statement .rclr :=
  fun _ => OpcodeByte.of_bounds _ (by simp [Instr.opcode]) (by decide)

theorem OpcodeByte.rsclr (u : RsId) : OpcodeByte.Statement (.rsclr u) :=
  fun _ => OpcodeByte.of_bounds _ (by simp [Instr.opcode]) (OpcodeByte.of_instance u)

theorem OpcodeByte.etick : OpcodeByte.Statement .etick :=
  fun _ => OpcodeByte.of_bounds _ (by simp [Instr.opcode]) (by decide)

theorem OpcodeByte.rtick : OpcodeByte.Statement .rtick :=
  fun _ => OpcodeByte.of_bounds _ (by simp [Instr.opcode]) (by decide)

theorem OpcodeByte.rstick (u : RsId) : OpcodeByte.Statement (.rstick u) :=
  fun _ => OpcodeByte.of_bounds _ (by simp [Instr.opcode]) (OpcodeByte.of_instance u)

theorem OpcodeByte.mix : OpcodeByte.Statement .mix :=
  fun _ => OpcodeByte.of_bounds _ (by simp [Instr.opcode]) (by decide)

theorem OpcodeByte.frame : OpcodeByte.Statement .frame :=
  fun _ => OpcodeByte.of_bounds _ (by simp [Instr.opcode]) (by decide)

end Sys2Proof.Laws
end

