-- ==== Sys2Proof/Laws/Registers.lean ====
section
/-!
SUPPORT. The register map: numbers and registers determine each other (R36), and what the one write does.
-/

namespace Sys2Proof.Machine

/- One declaration after another: few threads. -/
set_option Elab.async false

theorem Reg.mem_all (r : Reg) : r ∈ Reg.all := by
  cases r with
  | sample i => fin_cases i <;> decide
  | firc i => fin_cases i <;> decide
  | firh i => fin_cases i <;> decide
  | ecfg p => cases p <;> decide
  | emod p => cases p <;> decide
  | eeff p => cases p <;> decide
  | gain g => cases g <;> decide
  | line l => cases l <;> decide
  | rs u k => cases u <;> cases k <;> decide
  | _ => decide

/-- The 100 register numbers are all different. -/
theorem Reg.numbers_nodup : (Reg.all.map Reg.number).Nodup := by decide

theorem Reg.number_injective {r q : Reg} (h : r.number = q.number) : r = q :=
  List.inj_on_of_nodup_map Reg.numbers_nodup r.mem_all q.mem_all h

/-- A number read back from a register names that register. -/
@[simp] theorem Reg.ofNumber_number (r : Reg) : Reg.ofNumber r.number = some r := by
  unfold Reg.ofNumber
  cases h : Reg.all.find? (fun q => decide (q.number = r.number)) with
  | none =>
    have := List.find?_eq_none.1 h r r.mem_all
    simp at this
  | some q =>
    have := List.find?_some h
    simp only [decide_eq_true_eq] at this
    rw [Reg.number_injective this]

/-- A register found for a number has that number. -/
theorem Reg.number_of_ofNumber {a : Nat} {r : Reg} (h : Reg.ofNumber a = some r) : r.number = a := by
  have := List.find?_some h
  simpa using this

end Sys2Proof.Machine
end

