-- ==== Sys2Proof/Laws/Resampler.lean ====
section
/-!
SUPPORT. Counting native ticks, and everything a driving tick that is not ended by the watchdog can do (R125): the number
of producer calls, the phase and the held pairs.
-/

namespace Sys2Proof.Machine

/- One declaration after another: few threads. -/
set_option Elab.async false

@[simp] theorem Echo.afterTicks_zero (e : Echo) (inL inR : F) : e.afterTicks inL inR 0 = e := rfl

@[simp] theorem Reverb.afterTicks_zero (v : Reverb) (inL inR : F) : v.afterTicks inL inR 0 = v := rfl

theorem Echo.afterTicks_succ (e : Echo) (inL inR : F) (n : Nat) :
    e.afterTicks inL inR (n + 1) = ((e.afterTicks inL inR n).tick inL inR).1 :=
  Function.iterate_succ_apply' _ _ _

theorem Reverb.afterTicks_succ (v : Reverb) (inL inR : F) (n : Nat) :
    v.afterTicks inL inR (n + 1) = ((v.afterTicks inL inR n).tick inL inR).1 :=
  Function.iterate_succ_apply' _ _ _

@[simp] theorem Rs.phaseAfter_zero (r : Rs) : r.phaseAfter 0 = fadd r.phase fOne := rfl

theorem Rs.phaseAfter_succ (r : Rs) (n : Nat) : r.phaseAfter (n + 1) = fsub (r.phaseAfter n) r.period :=
  Function.iterate_succ_apply' _ _ _

variable {σ : Type} {producer : σ → F → F → σ × F × F} {inL inR : F}

/-- Inside a driving tick that entered with `r` and the model `m`: `q` and `mq` are the instance and the model after j
producer calls. -/
def afterCalls (producer : σ → F → F → σ × F × F) (inL inR : F) (r : Rs) (m : σ) (j : Nat) (q : Rs) (mq : σ) : Prop :=
  mq = (fun x => (producer x inL inR).1)^[j] m ∧
  (∀ k, k < j → fle r.period (r.phaseAfter k) = true) ∧ q.phase = r.phaseAfter j ∧
  (q.nextL, q.nextR) =
    (if j = 0 then (r.nextL, r.nextR) else (producer ((fun x => (producer x inL inR).1)^[j - 1] m) inL inR).2) ∧
  (q.lastL, q.lastR) =
    (if j = 0 then (r.lastL, r.lastR) else if j = 1 then (r.nextL, r.nextR)
      else (producer ((fun x => (producer x inL inR).1)^[j - 2] m) inL inR).2) ∧
  q.period = r.period ∧ q.driving = r.driving ∧ q.driven = r.driven

/-- One pass of the loop is one more call. -/
theorem afterCalls_shift {r q : Rs} {m mq : σ} {j : Nat} (h : afterCalls producer inL inR r m j q mq)
    (hle : fle q.period q.phase = true) :
    afterCalls producer inL inR r m (j + 1) (q.shift (producer mq inL inR).2.1 (producer mq inL inR).2.2)
      (producer mq inL inR).1 := by
  obtain ⟨rfl, hk, hp, hn, -, hper, hd1, hd2⟩ := h
  refine ⟨by rw [Function.iterate_succ_apply'], fun k hkj => ?_, ?_, ?_, ?_, hper, hd1, hd2⟩
  · rcases Nat.lt_succ_iff_lt_or_eq.mp hkj with h | rfl
    · exact hk k h
    · rwa [← hp, ← hper]
  · simp only [Rs.shift, hp, hper, Rs.phaseAfter_succ]
  · simp [Rs.shift]
  · cases j with
    | zero => simpa [Rs.shift] using hn
    | succ j => simpa [Rs.shift] using hn

/-- What the loop answers from the state after j calls. -/
theorem rsLoop_afterCalls {r : Rs} {m : σ} : ∀ fuel j q mq r' m', afterCalls producer inL inR r m j q mq →
    rsLoop producer inL inR fuel q mq = some (r', m') →
    ∃ n, n ≤ j + fuel ∧ afterCalls producer inL inR r m n r' m' ∧ fle r'.period r'.phase = false := by
  intro fuel
  induction fuel with
  | zero =>
    intro j q mq r' m' hq h
    cases hle : fle q.period q.phase with
    | true => simp [rsLoop, hle] at h
    | false =>
      rw [rsLoop_exit 0 hle, Option.some.injEq, Prod.mk.injEq] at h
      obtain ⟨rfl, rfl⟩ := h
      exact ⟨j, le_rfl, hq, hle⟩
  | succ fuel ih =>
    intro j q mq r' m' hq h
    cases hle : fle q.period q.phase with
    | true =>
      rw [rsLoop_call fuel hle] at h
      obtain ⟨n, hn, hr⟩ := ih (j + 1) _ _ _ _ (afterCalls_shift hq hle) h
      exact ⟨n, by omega, hr⟩
    | false =>
      rw [rsLoop_exit _ hle, Option.some.injEq, Prod.mk.injEq] at h
      obtain ⟨rfl, rfl⟩ := h
      exact ⟨j, by omega, hq, hle⟩

/-- Everything `RsProcess` can do where it is not Watchdog: n producer calls, at most RS_FUEL, and the output
interpolated from what they leave. -/
theorem rsProcess_followsCalls {r r' : Rs} {m m' : σ} {outL outR : F}
    (h : rsProcess producer r m inL inR = some (r', m', outL, outR)) :
    ∃ n, n ≤ Config.rsFuel ∧ m' = (fun x => (producer x inL inR).1)^[n] m ∧
      r.FollowsCalls r' (fun k => (producer ((fun x => (producer x inL inR).1)^[k] m) inL inR).2) n ∧
      (outL, outR) = r'.output := by
  obtain ⟨hl, ho⟩ := rsProcess_some h
  have start : afterCalls producer inL inR r m 0 { r with phase := fadd r.phase fOne } m :=
    ⟨rfl, fun k hk => absurd hk (Nat.not_lt_zero k), rfl, rfl, rfl, rfl, rfl, rfl⟩
  obtain ⟨n, hn, ⟨hm, hk, hp, hnx, hla, hper, hd⟩, hle⟩ := rsLoop_afterCalls _ 0 _ _ _ _ start hl
  exact ⟨n, by omega, hm, ⟨hk, hp, hper ▸ hle, hnx, hla, hper, hd⟩, ho⟩

end Sys2Proof.Machine
end

