-- ==== Sys2Proof/Laws/Reverb.lean ====
section
/-!
SUPPORT. What the stages of the reverb network and one native tick leave alone: everything but WS, and at the end of the
tick the cursor (R178, R181).
-/

namespace Sys2Proof.Machine

/- One declaration after another: few threads. -/
set_option Elab.async false

/-- A write through the cursor changes only WS. -/
theorem Reverb.wset_eq (r : Reverb) (a : Int) (v : F) : r.wset a v = { r with ws := (r.wset a v).ws } := rfl

/-- Reflect changes only WS (R182). -/
theorem Reverb.reflect_eq (r : Reverb) (x : F) (d m : Word) :
    r.reflect x d m = { r with ws := (r.reflect x d m).ws } := rfl

/-- Apf changes only WS (R184). -/
theorem Reverb.apf_eq (r : Reverb) (x : F) (m d : Word) (g : F) :
    (r.apf x m d g).1 = { r with ws := (r.apf x m d g).1.ws } := rfl

@[simp] theorem Reverb.reflect_cur (r : Reverb) (x : F) (d m : Word) : (r.reflect x d m).cur = r.cur := rfl

@[simp] theorem Reverb.reflect_ring (r : Reverb) (x : F) (d m : Word) : (r.reflect x d m).ring = r.ring := rfl

@[simp] theorem Reverb.apf_cur (r : Reverb) (x : F) (m d : Word) (g : F) : (r.apf x m d g).1.cur = r.cur := rfl

@[simp] theorem Reverb.apf_ring (r : Reverb) (x : F) (m d : Word) (g : F) : (r.apf x m d g).1.ring = r.ring := rfl

@[simp] theorem Reverb.advance_ring (r : Reverb) : r.advance.ring = r.ring := rfl

/-- The ring size outlives a native tick. -/
@[simp] theorem Reverb.tick_ring (r : Reverb) (inL inR : F) : (r.tick inL inR).1.ring = r.ring := by
  simp only [Reverb.tick, advance_ring, reflect_ring, apf_ring]

/-- A native tick advances the cursor by one word. -/
@[simp] theorem Reverb.tick_cur (r : Reverb) (inL inR : F) :
    (r.tick inL inR).1.cur = BitVec.ofNat 32 ((r.cur.toNat + 1) % r.ring.toNat) := by
  simp only [Reverb.tick, Reverb.advance, reflect_cur, apf_cur, reflect_ring, apf_ring]

end Sys2Proof.Machine
end

