-- ==== Sys2Proof/Tests/Slice0.lean ====
section
/-!
SUPPORT. Tests: ill-formed commands, words written out from the encodings of R72 to R78, one-step vectors from the
examples of spec/ and its file 95, and for every obligation with hypotheses a state or value that meets them.
-/

namespace Sys2Proof.Tests

open Sys2Proof.Machine

/- One declaration after another: the kernel evaluations below then share one thread. -/
set_option Elab.async false

/-! ## Helpers -/

/-- The result is a next state that satisfies `p`. -/
def nextSat (r : Result) (p : State → Bool) : Bool :=
  match r with
  | .next t => p t
  | .fault _ => false
  | .refused _ => false

/-- The result is a next state that answers `resp` and `rdata`. -/
def answers (r : Result) (resp rdata : Nat) : Bool :=
  nextSat r fun t => decide (t.port.resp.toNat = resp ∧ t.port.rdata.toNat = rdata)

/-- All four units constructed at small sizes: an echo ring of 4 in an EB of 8 words, T0 at 22050 Hz in a WS of 64
words, both resamplers at period 1.0. -/
def demo : State :=
  { State.reset with
    cfg := { ebWords := 8, wsWords := 64, presets := [Config.presetT0], hostEndian := .little }
    samples := { Bank.replicate 0#32 with r0 := 0x3F800000#32 }
    echo := (Echo.reset 0).construct 17#32 4#32
    reverb := (Reverb.reset 0).construct 0 Config.presetT0 22050#32 64#32 64
    rs0 := Rs.construct 48000#32 48000#32
    rs1 := Rs.construct 48000#32 48000#32
    status := { eReady := true, rReady := true, rs0Ready := true, rs1Ready := true, fatal := false, fcode := 0#8 } }

/-- `demo` with the two argument registers written. -/
def withArgs (a b : Nat) : State := { demo with arg0 := BitVec.ofNat 32 a, arg1 := BitVec.ofNat 32 b }

/-- `demo` after a fatal ERR_PARAM. -/
def halted : State := { demo with status := { demo.status with fatal := true, fcode := 5#8 } }

/-- `demo` with silent input. -/
def silent : State := { demo with samples := Bank.replicate 0#32 }

/-- `demo` one tick before a wrap of the echo ring, with size 0, so that the candidate is 1. -/
def atWrap : State := { demo with echo := { demo.echo with widx := 3#32 } }

/-- `demo` with the period and phase of instance u replaced. -/
def withPeriod (u : RsId) (period phase : F) : State :=
  demo.setRs u { demo.rs u with period := period, phase := phase }

/-- `demo` with one transaction presented. -/
def presented (c w : Word) : State := { demo with pending := [.transaction c w] }

/-! ## Ill-formed commands -/

theorem test_reg_field_too_wide : (Instr.wr 256).wellFormed = false ∧ (Instr.rd 256).wellFormed = false := by decide
theorem test_preset_field_too_wide : (Instr.rinit 256).wellFormed = false := by decide
theorem test_index_field_too_wide :
    (Instr.ebrd 0x1000000).wellFormed = false ∧ (Instr.ebwr 0x1000000).wellFormed = false ∧
    (Instr.wsrd 0x1000000).wellFormed = false ∧ (Instr.wswr 0x1000000).wellFormed = false := by decide

/-! ## Decoding: words written out as op ++ bits 23:17 ++ bit 16 ++ bits 15:0 (R72) -/

/-- A word from its four groups of bits. -/
def bits (op : BitVec 8) (hi : BitVec 7) (b16 : BitVec 1) (low : BitVec 16) : Word := op ++ hi ++ b16 ++ low

theorem test_decode_nop : decode (bits 0b00000000#8 0b0000000#7 0b0#1 0#16) = some .nop := by decide
theorem test_decode_wr : decode (bits 0b00000001#8 0b0001000#7 0b1#1 0#16) = some (.wr 0x11) := by decide
theorem test_decode_rd : decode (bits 0b00000010#8 0b0000011#7 0b0#1 0#16) = some (.rd 6) := by decide
theorem test_decode_ebrd : decode (bits 0b00000100#8 0#7 0b0#1 0b0000000000010000#16) = some (.ebrd 16) := by decide
theorem test_decode_ebwr : decode (bits 0b00000101#8 0#7 0b1#1 0b0000000000000011#16) = some (.ebwr 0x10003) := by decide
theorem test_decode_wsrd : decode (bits 0b00000110#8 0b1000000#7 0b0#1 0b0000000000111100#16) = some (.wsrd 0x80003C) := by
  decide
theorem test_decode_wswr : decode (bits 0b00000111#8 0b1111111#7 0b1#1 0b1111111111111111#16) = some (.wswr 0xFFFFFF) := by
  decide
theorem test_decode_einit : decode (bits 0b00010000#8 0#7 0#1 0#16) = some .einit := by decide
theorem test_decode_rinit : decode (bits 0b00010001#8 0b0000001#7 0b1#1 0#16) = some (.rinit 3) := by decide
theorem test_decode_rsinit : decode (bits 0b00010010#8 0#7 0b1#1 0#16) = some (.rsinit .rs1) := by decide
theorem test_decode_eclr : decode (bits 0b00011000#8 0#7 0#1 0#16) = some .eclr := by decide
theorem test_decode_rclr : decode (bits 0b00011001#8 0#7 0#1 0#16) = some .rclr := by decide
theorem test_decode_rsclr : decode (bits 0b00011010#8 0#7 0b1#1 0#16) = some (.rsclr .rs1) := by decide
theorem test_decode_etick : decode (bits 0b00100000#8 0#7 0#1 0#16) = some .etick := by decide
theorem test_decode_rtick : decode (bits 0b00100001#8 0#7 0#1 0#16) = some .rtick := by decide
theorem test_decode_rstick : decode (bits 0b00100010#8 0#7 0b0#1 0#16) = some (.rstick .rs0) := by decide
theorem test_decode_mix : decode (bits 0b00100011#8 0#7 0#1 0#16) = some .mix := by decide
theorem test_decode_frame : decode (bits 0b00100100#8 0#7 0#1 0#16) = some .frame := by decide

/-- R77: an unused opcode at each end of each range, and a must-be-zero bit of each format. -/
theorem test_decode_illegal :
    ([0x03000000#32, 0x08000000#32, 0x0F000000#32, 0x13000000#32, 0x17000000#32, 0x1B000000#32, 0x1F000000#32,
      0x25000000#32, 0xFF000000#32, 0x00000001#32, 0x20000001#32, 0x24800000#32, 0x01100001#32, 0x02068000#32,
      0x11030001#32, 0x12020000#32, 0x1A000001#32, 0x22810000#32] : List Word).all
      (fun w => (decode w).isNone) = true := by decide

/-- The table word of `RSTICK 1`, and the step that runs the first transaction after reset. -/
theorem test_decode_table_word : decodeTableWord 32 0x22010000 = some (.rstick .rs1) := by decide
theorem test_fetch_first_command : answers (step (State.reset.withFetchWord 32 0x02180000)) 0 0x7F = true := by decide
theorem test_fetch_data_word :
    nextSat (step (State.reset.withFetchWord 64 0x3F80000001100000)) (fun t => t.echo.cfgSize = 0x3F800000#32) = true := by
  decide

/-- U7: the chosen configurations meet the constraints on the OPEN parameters. -/
theorem test_cfg_wf : Config.resetCfg.wf = true ∧ demo.cfg.wf = true := by decide

/-! ## One step each, from the examples of the rules -/

/-- R216. -/
theorem test_nop : answers (execNop halted) 0 0 = true := by decide
/-- R217: `WR FIRC1, 0x1FF` stores −1; `WR E_LEN` and `WR 0x0C` answer 3 and 2. -/
theorem test_wr :
    nextSat (execWr 0x19 { demo with port := { demo.port with wdata := 0x1FF#32 } })
      (fun t => t.readReg (.firc 1) = 0xFFFFFFFF#32) = true := by decide
theorem test_wr_errors : answers (execWr 0x23 demo) 3 0 = true ∧ answers (execWr 0x0C demo) 2 0 = true := by decide
/-- R218, R25: STATUS of a halted machine. -/
theorem test_rd : answers (execRd 0x18 State.reset) 0 0x7F = true ∧ answers (execRd 0x80 halted) 0 0x58F = true := by
  decide
/-- R219, R220: −1 reads sign-extended. -/
theorem test_ebwr_ebrd :
    nextSat (execEbwr 3 { demo with port := { demo.port with wdata := 0x1234FFFF#32 } })
      (fun t => answers (execEbrd 3 t) 0 0xFFFFFFFF) = true := by decide
/-- R221, R222. -/
theorem test_wswr_wsrd :
    nextSat (execWswr 0 { demo with port := { demo.port with wdata := 0x3F800000#32 } })
      (fun t => answers (execWsrd 0 t) 0 0x3F800000) = true := by decide
/-- R141: `ECONS 32000, 7680` in the default configuration. -/
theorem test_einit :
    nextSat (execEinit { State.reset with arg0 := 32000#32, arg1 := 7680#32 })
      (fun t => t.echo.inc = 512#32 ∧ t.echo.len = 7680#32 ∧ t.readReg .status = 1#32) = true := by decide +kernel
theorem test_einit_capacity :
    answers (execEinit { State.reset with arg0 := 32000#32, arg1 := 7679#32 }) 6 0 = true := by decide +kernel
/-- R174, R176: T0 at 48000 Hz. -/
theorem test_rinit :
    nextSat (execRinit 0 { State.reset with arg0 := 48000#32, arg1 := 256#32 })
      (fun t => t.reverb.ring = 256#32 ∧ t.reverb.lines.mLSAME = 130#32 ∧ t.reverb.lines.dAPF1 = 6#32 ∧
        t.reverb.gains.wall = 0xBF000000#32) = true := by decide +kernel
/-- R121. -/
theorem test_rsinit :
    nextSat (execRsinit .rs0 (withArgs 48000 32000)) (fun t => t.rs0.period = 0x3FC00000#32) = true ∧
    answers (execRsinit .rs0 (withArgs 1 257)) 5 0 = true := by decide +kernel
/-- R155: ECLR keeps the cursor and the length. -/
theorem test_eclr :
    nextSat (execEclr { atWrap with echo := { atWrap.echo with firh := Bank.replicate 5#16, eb := atWrap.echo.eb.write 2 7#16 } })
      (fun t => t.readEb 2 = 0#16 ∧ t.echo.firh.r7 = 0#16 ∧ t.echo.widx = 3#32) = true := by decide
/-- R185. -/
theorem test_rclr :
    nextSat (execRclr { demo with reverb := demo.reverb.wset 63 fOne }) (fun t => t.readWs 63 = 0#32) = true := by
  decide +kernel
/-- R129. -/
theorem test_rsclr :
    nextSat (execRsclr .rs1 (withPeriod .rs1 0x3FC00000#32 fOne))
      (fun t => t.rs1.phase = fZero ∧ t.rs1.period = 0x3FC00000#32) = true := by decide
/-- R146: after `IN 1.0, 0.0` the tick stores 16384 at the new index 1 and answers +0.0 on both channels. -/
theorem test_etick :
    nextSat (execEtick demo) (fun t => t.readEb 1 = 16384#16 ∧ t.echo.widx = 1#32 ∧ t.samples.r2 = 0#32 ∧
      t.samples.r3 = 0#32) = true := by decide +kernel
/-- R180. -/
theorem test_rtick :
    nextSat (execRtick demo) (fun t => t.readWs 60 = 0x3E800000#32 ∧ t.readWs 44 = 0x3E800000#32 ∧
      t.reverb.cur = 1#32 ∧ t.samples.r4 = 0#32) = true := by decide +kernel
/-- R124: equal rates make one EchoTick and leave the phase at +0.0. -/
theorem test_rstick :
    nextSat (execRstick .rs0 demo) (fun t => t.rs0.phase = 0#32 ∧ t.echo.widx = 1#32 ∧ t.readEb 1 = 16384#16) = true := by
  decide +kernel
/-- Period 0.5 makes two calls in a tick (R122). -/
theorem test_rstick_two_calls :
    nextSat (execRstick .rs1 (withPeriod .rs1 fHalf fZero)) (fun t => t.reverb.cur = 2#32) = true := by decide +kernel
/-- R130 tick 2, R125 (log 11): the first producer call already shows in the output. -/
theorem test_rs_trace :
    (rsProcess (fun (_ : Unit) l r => ((), l, r)) { Rs.construct 48000#32 32000#32 with phase := fOne } ()
      0x40000000#32 0x40000000#32).map (fun p => (p.1.phase, p.1.lastL, p.1.nextL, p.2.2.1)) =
    some (fHalf, fZero, 0x40000000#32, 0x3F2AAAAB#32) := by decide +kernel
/-- R201. -/
theorem test_mix :
    nextSat (execMix { demo with
        samples := { Bank.replicate 0#32 with
          r0 := fHalf, r1 := fHalf, r2 := 0x3E295556#32, r3 := 0xBE295556#32 }
        xfade := fHalf, wetdry := fHalf })
      (fun t => t.samples.r6 = 0x3E9DEF27#32 ∧ t.samples.r7 = 0x3E4421B2#32) = true := by decide +kernel
/-- R205, R203: at XFADE = WETDRY = 0 the frame's output is its input, and both models ran one tick. -/
theorem test_frame :
    nextSat (execFrame demo) (fun t => t.samples.r6 = fOne ∧ t.samples.r7 = 0#32 ∧ t.echo.widx = 1#32 ∧
      t.reverb.cur = 1#32) = true := by decide +kernel

/-! ## Units (spec/95 sections 2.1 to 2.6, R150) -/

theorem test_eff :
    eff 0x40000000#32 fHalf = fOne ∧ eff 0xC0400000#32 fOne = fZero ∧ eff fHalf 0xBE800000#32 = 0x3E800000#32 ∧
    clamp01 0x7FC00000#32 = fZero ∧ clamp01 0x80000000#32 = fZero := by decide +kernel
theorem test_lerp :
    lerp 0x3E800000#32 0x3F400000#32 fHalf = fHalf ∧ lerp 0x3DCCCCCD#32 0x3F333333#32 fOne = 0x3F333333#32 ∧
    lerp 0#32 0x3EFE0000#32 0x3EAAAAAB#32 = 0x3E295556#32 := by decide +kernel
theorem test_xfade :
    xfade fOne fOne fHalf = 0x3FB504F3#32 ∧ xfade fHalf 0xBE800000#32 0x3E800000#32 = 0x3EBB8799#32 ∧
    xfade 0x3E800000#32 0x3F400000#32 fOne = 0x3F400000#32 := by decide +kernel
theorem test_f2q :
    f2q fHalf = 16384 ∧ f2q fOne = 32767 ∧ f2q 0xBF800000#32 = -32768 ∧ f2q 0xB8000000#32 = -1 ∧
    f2q 0xB58637BD#32 = 0 ∧ f2q 0x7F800000#32 = 32767 ∧ f2q 0x7FC00000#32 = 0 := by decide +kernel
theorem test_f2i : f2i 0xBF666666#32 = 0 ∧ f2i 0xBFC00000#32 = -1 ∧ f2i 0x471C4000#32 = 32767 := by decide +kernel
theorem test_q2f : q2f 16256 = 0x3EFE0000#32 ∧ q2f 32767 = 0x3F7FFE00#32 ∧ q2f (-32768) = 0xBF800000#32 := by
  decide +kernel
theorem test_round_inc :
    roundInc 0x43800000#32 512 = 512 ∧ roundInc 0x43FF8000#32 512 = 512 ∧ roundInc 0x44400000#32 512 = 1024 := by
  decide +kernel
theorem test_wrap_sat_ring :
    wrap16 65022 = -514 ∧ wrap16 (-32769) = 32767 ∧ sat16 65022 = 32767 ∧ pow2ceil 65 = 128 ∧ pow2ceil 0 = 1 ∧
    ringIndex (-4) 64 = 60 ∧ ringIndex 130 64 = 2 := by decide
/-- R145: the candidates at capacity 240 and increment 16. -/
theorem test_echo_cand :
    echoCand 240 16 fZero = 1 ∧ echoCand 240 16 0x3DCCCCCD#32 = 32 ∧ echoCand 240 16 fHalf = 128 ∧
    echoCand 240 16 0x3F6872B0#32 = 224 ∧ echoCand 240 16 fOne = 240 := by decide +kernel
/-- R150: the wrap of two full taps, tap 7 alone, and the floor shift. -/
theorem test_fir :
    firSum { Bank.replicate 0#8 with r0 := 127#8, r1 := 127#8 } (Bank.replicate 32767#16) = -514 ∧
    firSum { Bank.replicate 0#8 with r7 := 127#8 } (Bank.replicate 32767#16) = 32511 ∧
    firSum { Bank.replicate 0#8 with r0 := 255#8 } (Bank.replicate 1#16) = -1 := by decide

/-! ## Witnesses: the hypotheses of each obligation hold somewhere, at the ends of their ranges -/

theorem witness_EncodeThenDecodeGivesCommand :
    ([.wr 0, .wr 255, .rd 255, .ebrd 0, .ebrd 0xFFFFFF, .wswr 0xFFFFFF, .rinit 255, .rstick .rs1] : List Instr).all
      Instr.wellFormed = true := by decide
theorem witness_DecodedWordIsItsEncoding :
    decode 0x06FFFFFF#32 = some (.wsrd 0xFFFFFF) ∧ decode 0x12010000#32 = some (.rsinit .rs1) ∧
    decode 0x01FF0000#32 = some (.wr 255) := by decide
theorem witness_DecodeMatchesTableRows :
    0x01FF0000#32 &&& (Instr.wr 0).tableRow.2 = (Instr.wr 0).tableRow.1 ∧
    ∀ i : Instr, 0x03000000#32 &&& i.tableRow.2 ≠ i.tableRow.1 := by
  refine ⟨by decide, fun i => ?_⟩
  cases i <;> simp only [Instr.tableRow] <;> decide
theorem witness_IllegalWordsAnswerIllegal :
    (presented 0x20000001#32 7#32).pending = .transaction 0x20000001#32 7#32 :: [] ∧ decode 0x20000001#32 = none ∧
    answers (exec (.rd 0x81) demo) 2 0 = true := by decide
theorem witness_PresentedCommandIsRun :
    (presented 0x22010000#32 7#32).pending = .transaction 0x22010000#32 7#32 :: [] ∧
    decode 0x22010000#32 = some (.rstick .rs1) := by decide
theorem witness_ResetEventRestoresRegisters :
    ({ halted with pending := [.reset, .transaction 0#32 0#32] } : State).pending =
      .reset :: [.transaction 0#32 0#32] := by decide
theorem witness_RegisterMapIsAsListed :
    Reg.ofNumber 0x1F = some (.firc 7) ∧ Reg.ofNumber 0x20 = some .eRate ∧ Reg.ofNumber 0x80 = some .status ∧
    Reg.ofNumber 0x0B = some .arg1 ∧ Reg.ofNumber 0 = some (.sample 0) := by decide
theorem witness_ReadsAnswerAndChangeNothing :
    Reg.ofNumber 0x80 = some .status ∧ 7 < demo.cfg.ebWords ∧ 63 < demo.cfg.wsWords := by decide
theorem witness_WrWritesOneRegister :
    demo.status.fatal = false ∧ Reg.ofNumber 0x1F = some (.firc 7) ∧ (Reg.firc 7).writable = true ∧
    Reg.ofNumber 0 = some (.sample 0) ∧ (Reg.sample 0).writable = true := by decide
theorem witness_WrErrorsChangeNothing :
    halted.status.fatal = true ∧ demo.status.fatal = false ∧ Reg.ofNumber 0x0C = none ∧ Reg.ofNumber 0xFF = none ∧
    Reg.ofNumber 0x81 = none ∧ Reg.ofNumber 0x20 = some .eRate ∧ Reg.eRate.writable = false := by decide
theorem witness_RamWritesStoreOneWord :
    demo.status.fatal = false ∧ 7 < demo.cfg.ebWords ∧ 63 < demo.cfg.wsWords := by decide
theorem witness_OperandsThatNameNothingAnswerRange :
    Reg.ofNumber 0x26 = none ∧ demo.cfg.ebWords ≤ 8 ∧ demo.cfg.wsWords ≤ 64 ∧ demo.status.fatal = false ∧
    demo.cfg.presets.length ≤ 1 := by decide

/-- The hypotheses of EinitConstructsEcho, at a capacity equal to the required one (17 Hz needs 4) and at one equal to
the whole of EB. -/
theorem witness_EinitConstructsEcho :
    ([withArgs 17 4, withArgs 17 8] : List State).all (fun s => decide (
      s.status.fatal = false ∧ s.arg0 ≠ 0#32 ∧ s.arg1 ≠ 0#32 ∧ s.arg1.toNat ≤ s.cfg.ebWords ∧
      240 * s.arg0.toNat / 1000 ≤ s.arg1.toNat)) = true := by decide
theorem witness_ConstructionErrorsAreFatal_einit :
    ([withArgs 0 4, withArgs 17 0, withArgs 17 9] : List State).all (fun s => decide (
      s.status.fatal = false ∧ (s.arg0 = 0#32 ∨ s.arg1 = 0#32 ∨ s.cfg.ebWords < s.arg1.toNat))) = true ∧
    ([withArgs 21 4, withArgs 17 3] : List State).all (fun s => decide (
      s.status.fatal = false ∧ s.arg0 ≠ 0#32 ∧ s.arg1 ≠ 0#32 ∧ s.arg1.toNat ≤ s.cfg.ebWords ∧
      s.arg1.toNat < 240 * s.arg0.toNat / 1000)) = true := by decide
/-- 63 words are one too few for T0 at 22050 Hz; at 368 Hz the ring is one word and A_mLSAME would be 1. -/
theorem witness_ConstructionErrorsAreFatal_rinit :
    ([withArgs 0 64, withArgs 22050 0, withArgs 22050 65] : List State).all (fun s => decide (
      s.status.fatal = false ∧ 0 < s.cfg.presets.length ∧
      (s.arg0 = 0#32 ∨ s.arg1 = 0#32 ∨ s.cfg.wsWords < s.arg1.toNat))) = true ∧
    ([withArgs 22050 63, withArgs 368 1] : List State).all (fun s => decide (
      s.status.fatal = false ∧ s.cfg.presets[0]? = some Config.presetT0 ∧ s.arg0 ≠ 0#32 ∧ s.arg1 ≠ 0#32 ∧
      s.arg1.toNat ≤ s.cfg.wsWords)) = true ∧
    (withArgs 22050 63).arg1.toNat < pow2ceil (longestPreset demo.cfg.presets * 22050 / 22050) ∧
    pow2ceil (longestPreset demo.cfg.presets * 368 / 22050) ≤ lineOf Config.presetT0.lines .mLSAME * 368 / 22050 := by
  decide +kernel
theorem witness_ConstructionErrorsAreFatal_rsinit :
    ([withArgs 0 1, withArgs 1 0, withArgs 257 1, withArgs 1 257] : List State).all (fun s => decide (
      s.status.fatal = false ∧ (s.arg0 = 0#32 ∨ s.arg1 = 0#32 ∨ 256 * s.arg1.toNat < s.arg0.toNat ∨
        256 * s.arg0.toNat < s.arg1.toNat))) = true := by decide
theorem witness_EtickAdvancesAndStoresOneWord :
    demo.status.fatal = false ∧ demo.status.eReady = true ∧ demo.echoRingOk = true ∧ atWrap.echoRingOk = true := by
  decide
theorem witness_EtickFiltersAndFeedsBack :
    atWrap.status.fatal = false ∧ atWrap.status.eReady = true ∧ atWrap.echoRingOk = true := by decide
theorem witness_LengthChangesOnlyAtWrap :
    (atWrap.echo.tick fZero fZero).1.len ≠ atWrap.echo.len ∧
    nextSat (exec .etick atWrap) (fun t => t.echo.len ≠ atWrap.echo.len) = true := by decide +kernel
/-- A run of native ticks from index 0 with a ring of 4. -/
theorem witness_LengthChangesOnlyAtWrap_run :
    let f : Nat → Echo := demo.echo.afterTicks fOne fZero
    (f 0).widx = 0#32 ∧ 3 < (f 0).len.toNat ∧
    ∀ k, ∃ (e : Echo) (inL inR : F), e.len = (f k).len ∧ e.widx = (f k).widx ∧ f (k + 1) = (e.tick inL inR).1 := by
  refine ⟨rfl, by decide, fun k => ⟨_, fOne, fZero, rfl, rfl, Function.iterate_succ_apply' _ _ _⟩⟩
theorem witness_EclrClearsDelayLines :
    demo.status.fatal = false ∧ demo.status.eReady = true ∧ demo.echo.cap.toNat ≤ demo.cfg.ebWords := by decide
theorem witness_SilentEchoStaysSilent :
    silent.status.fatal = false ∧ silent.status.eReady = true ∧ silent.EchoOk ∧ silent.EchoSilent ∧
    IsZero silent.samples.r0 ∧ IsZero silent.samples.r1 ∧ eff silent.echo.cfgFb silent.echo.modFb = fZero := by
  unfold State.EchoOk State.EchoSilent IsZero
  decide +kernel
/-- Two states that differ in ECFG_FILT, and a command that runs in the first. -/
theorem witness_FilterBlendInfluencesNothing :
    SameButFilterBlend demo { demo with echo := { demo.echo with cfgFilt := fOne } } ∧
    nextSat (exec .frame demo) (fun _ => true) = true := by
  exact ⟨rfl, by decide +kernel⟩
theorem witness_RinitConstructsReverb :
    (withArgs 22050 64).status.fatal = false ∧ (withArgs 22050 64).cfg.presets[0]? = some Config.presetT0 ∧
    (withArgs 22050 64).arg0 ≠ 0#32 ∧ (withArgs 22050 64).arg1 ≠ 0#32 ∧
    (withArgs 22050 64).arg1.toNat ≤ (withArgs 22050 64).cfg.wsWords ∧
    pow2ceil (longestPreset demo.cfg.presets * 22050 / 22050) ≤ (withArgs 22050 64).arg1.toNat ∧
    ∀ l, lineOf Config.presetT0.lines l * 22050 / 22050 < pow2ceil (longestPreset demo.cfg.presets * 22050 / 22050) := by
  refine ⟨by decide, by decide, by decide, by decide, by decide, by decide +kernel, fun l => ?_⟩
  cases l <;> decide +kernel
theorem witness_RtickRunsTheNetwork :
    demo.status.fatal = false ∧ demo.status.rReady = true ∧ demo.reverbRingOk = true := by decide
theorem witness_CursorTurnsAddressesIntoDelays : 1 ≤ demo.reverb.ring.toNat := by decide
theorem witness_RclrClearsWorkspace :
    demo.status.fatal = false ∧ demo.status.rReady = true ∧ demo.reverb.cap.toNat ≤ demo.cfg.wsWords := by decide
/-- The reverb of `demo` satisfies R30 and R32. -/
theorem demo_reverbOk : demo.ReverbOk := by
  have ring : demo.reverb.ring.toNat = 2 ^ 6 := by decide +kernel
  have cap : demo.reverb.ring.toNat ≤ demo.reverb.cap.toNat := by decide +kernel
  have words : demo.reverb.cap.toNat ≤ demo.cfg.wsWords := by decide +kernel
  have cur : demo.reverb.cur.toNat < demo.reverb.ring.toNat := by decide +kernel
  have lines : demo.reverb.lines.toList.all (fun a => decide (a.toNat < demo.reverb.ring.toNat)) = true := by
    decide +kernel
  exact ⟨⟨6, ring⟩, cap, words, cur, fun a h => of_decide_eq_true (List.all_eq_true.mp lines a h)⟩
theorem witness_SilentReverbStaysSilent :
    silent.status.fatal = false ∧ silent.status.rReady = true ∧ silent.ReverbOk ∧ silent.GainsFinite ∧
    silent.ReverbSilent ∧ IsZero silent.samples.r0 ∧ IsZero silent.samples.r1 := by
  refine ⟨by decide, by decide, demo_reverbOk, fun g => ?_, ?_, by unfold IsZero; decide, by unfold IsZero; decide⟩
  · cases g <;> decide +kernel
  · unfold State.ReverbSilent IsZero
    decide +kernel

theorem witness_RsinitConstructsResampler :
    ([withArgs 256 1, withArgs 1 256, withArgs 48000 32000] : List State).all (fun s => decide (
      s.status.fatal = false ∧ s.arg0 ≠ 0#32 ∧ s.arg1 ≠ 0#32 ∧ s.arg0.toNat ≤ 256 * s.arg1.toNat ∧
      s.arg1.toNat ≤ 256 * s.arg0.toNat)) = true := by decide
theorem witness_RsclrClearsHeldOutputs :
    demo.status.fatal = false ∧ demo.status.ready (.rs .rs0) = true ∧ demo.status.ready (.rs .rs1) = true := by decide
/-- Both instances at period 1.0, and instance 0 at the two ends of R33: period 2^-8 with phase +0.0, period 256.0 with
the largest phase below it. -/
theorem witness_RstickCompletesFromItsInvariant :
    ([demo, withPeriod .rs0 0x3B800000#32 fZero, withPeriod .rs0 0x43800000#32 0x437FFFFF#32] : List State).all
      (fun s => [RsId.rs0, RsId.rs1].all (fun u => decide (
        s.status.fatal = false ∧ s.rsReady u = true ∧ s.modelRingOk u = true ∧
        (fle 0x3B800000#32 (s.rs u).period = true ∧ fle (s.rs u).period 0x43800000#32 = true ∧
          fle fZero (s.rs u).phase = true ∧ flt (s.rs u).phase (s.rs u).period = true)))) = true := by decide +kernel
theorem witness_RstickAtUnityCallsOnce :
    demo.status.fatal = false ∧ demo.rsReady .rs0 = true ∧ demo.echoRingOk = true ∧ demo.rs0.period = fOne ∧
    demo.rs0.phase = fZero ∧ demo.rsReady .rs1 = true ∧ demo.reverbRingOk = true ∧ demo.rs1.period = fOne ∧
    demo.rs1.phase = fZero := by decide +kernel
theorem witness_RstickWithoutCallOnlyInterpolates :
    [RsId.rs0, RsId.rs1].all (fun u => decide (
      (withPeriod u 0x3FC00000#32 fZero).status.fatal = false ∧ (withPeriod u 0x3FC00000#32 fZero).rsReady u = true ∧
      (withPeriod u 0x3FC00000#32 fZero).modelRingOk u = true ∧
      fle ((withPeriod u 0x3FC00000#32 fZero).rs u).period
        (fadd ((withPeriod u 0x3FC00000#32 fZero).rs u).phase fOne) = false)) = true := by decide +kernel
/-- The state right after RSINIT, whose held pairs are +0.0. -/
theorem witness_RstickWithoutCallOnlyInterpolates_startup :
    ∀ u, ((withPeriod u 0x3FC00000#32 fZero).rs u).InRange ∧
      (withPeriod u 0x3FC00000#32 fZero).rs u =
        { ((withPeriod u 0x3FC00000#32 fZero).rs u).clear with phase := ((withPeriod u 0x3FC00000#32 fZero).rs u).phase } := by
  intro u
  cases u <;> unfold Rs.InRange <;> decide +kernel
theorem witness_ZeroPeriodEndsInWatchdog :
    [RsId.rs0, RsId.rs1].all (fun u => decide (
      (withPeriod u fZero fZero).status.fatal = false ∧ (withPeriod u fZero fZero).rsReady u = true ∧
      (withPeriod u fZero fZero).modelRingOk u = true ∧ ((withPeriod u fZero fZero).rs u).period = fZero ∧
      ((withPeriod u fZero fZero).rs u).phase = fZero)) = true := by decide +kernel
/-- FRAME with a zero period in resampler 0, and in resampler 1 after a tick of resampler 0 that answers OK. -/
theorem witness_ZeroPeriodEndsInWatchdog_frame :
    ([withPeriod .rs0 fZero fZero, withPeriod .rs1 fZero fZero] : List State).all (fun s => decide (
      s.status.fatal = false ∧ s.rsReady .rs0 = true ∧ s.rsReady .rs1 = true ∧ s.echoRingOk = true ∧
      s.reverbRingOk = true)) = true ∧
    (withPeriod .rs0 fZero fZero).rs0.period = fZero ∧ (withPeriod .rs0 fZero fZero).rs0.phase = fZero ∧
    (withPeriod .rs1 fZero fZero).rs1.period = fZero ∧ (withPeriod .rs1 fZero fZero).rs1.phase = fZero ∧
    nextSat (exec (.rstick .rs0) (withPeriod .rs1 fZero fZero)) (fun t => t.port.resp = 0#4) = true := by decide +kernel
theorem witness_MixBlendsEffectsAndDry : demo.status.fatal = false := by decide
/-- Finite operands whose difference is finite, the largest value and 1.0; operands whose difference is exact, 1.0 and
0.5; and a finite position. -/
theorem witness_BlendEndPointsAreExact :
    fIsFinite 0x7F7FFFFF#32 = true ∧ fIsFinite fOne = true ∧ fOne ≠ 0x80000000#32 ∧ 0x7F7FFFFF#32 ≠ 0x80000000#32 ∧
    fIsFinite (fsub fOne 0x7F7FFFFF#32) = true ∧ fReal (fsub fHalf fOne) = fReal fHalf - fReal fOne ∧
    fIsFinite fHalf = true := by decide +kernel
theorem witness_FrameCompletesFromItsInvariant :
    demo.status.fatal = false ∧ demo.rsReady .rs0 = true ∧ demo.rsReady .rs1 = true ∧ demo.echoRingOk = true ∧
    demo.reverbRingOk = true ∧ demo.rs0.InRange ∧ demo.rs1.InRange := by
  unfold Rs.InRange
  decide +kernel
theorem witness_FrameIsTwoTicksAndMix : nextSat (exec .frame demo) (fun t => t.port.resp = 0#4) = true := by
  decide +kernel
/-- One command for each of the non-fatal codes 2, 3, 4, 8, and an illegal word. -/
theorem witness_NonFatalErrorsLeaveNoTrace :
    answers (exec (.rd 0x81) demo) 2 0 = true ∧ answers (exec (.wr 0x80) demo) 3 0 = true ∧
    answers (exec .etick State.reset) 4 0 = true ∧ answers (exec .mix halted) 8 0 = true ∧
    (presented 0x22020000#32 0#32).pending = .transaction 0x22020000#32 0#32 :: [] ∧ decode 0x22020000#32 = none := by
  decide
theorem witness_ErrorsAnswerZeroData :
    answers (exec .mix halted) 8 0 = true ∧ nextSat (exec .etick demo) (fun t => t.port.resp = 0#4) = true := by
  decide +kernel
theorem witness_HaltedAdmitsOnlyReads :
    halted.status.fatal = true ∧ answers (exec .frame halted) 8 0 = true ∧ answers (exec (.ebrd 8) halted) 2 0 = true ∧
    nextSat (step { halted with pending := [.transaction 0x10000000#32 0#32] }) (fun _ => true) = true := by decide
theorem witness_UnconstructedUnitsAnswerNotReady :
    State.reset.status.fatal = false ∧ State.reset.status.eReady = false ∧ State.reset.status.rReady = false ∧
    State.reset.status.ready (.rs .rs0) = false ∧ State.reset.status.ready (.rs .rs1) = false ∧
    State.reset.status.ready .echo = false := by decide
theorem witness_StepKeepsMemoryCanonical :
    demo.MemoryOk ∧ nextSat (step (presented 0x24000000#32 0#32)) (fun _ => true) = true := by
  unfold State.MemoryOk
  decide +kernel
theorem witness_RingsOk : demo.RingsOk := by
  refine Or.inr ⟨fun _ => ?_, fun _ => demo_reverbOk⟩
  unfold State.EchoOk
  decide
theorem witness_StepKeepsRings :
    (presented 0x20000000#32 0#32).RingsOk ∧
    nextSat (step (presented 0x20000000#32 0#32)) (fun _ => true) = true := by
  exact ⟨witness_RingsOk, by decide +kernel⟩
theorem witness_StepKeepsResamplerRange :
    (presented 0x22000000#32 0#32).ResamplersOk ∧
    nextSat (step (presented 0x22000000#32 0#32)) (fun _ => true) = true := by
  refine ⟨Or.inr fun u _ => ?_, by decide +kernel⟩
  cases u <;> unfold Rs.InRange <;> decide +kernel
theorem witness_StepKeepsStatusLegal :
    halted.StatusOk ∧ (presented 0x12000000#32 0#32).StatusOk ∧
    nextSat (step (presented 0x12000000#32 0#32)) (fun t => t.status.fcode = 5#8) = true := by
  unfold State.StatusOk
  decide +kernel
theorem witness_OnlyBrokenRingsStop : demo.RingsOk ∧ State.reset.RingsOk := by
  refine ⟨witness_RingsOk, Or.inr ⟨fun h => ?_, fun h => ?_⟩⟩ <;> exact absurd h (by decide)
/-- A ring of no word, and RAMs of one word less than the rings and capacities. -/
theorem witness_OnlyBrokenRingsStop_faults :
    ([{ demo with echo := { demo.echo with len := 0#32 } }, { demo with cfg := { demo.cfg with ebWords := 3 } }] :
      List State).all (fun s => decide (s.status.fatal = false ∧ s.status.eReady = true ∧ s.echoRingOk = false ∧
        s.modelRingOk .rs0 = false ∧ s.rsReady .rs0 = true ∧ s.rsReady .rs1 = true)) = true ∧
    ([{ demo with reverb := { demo.reverb with ring := 0#32 } }, { demo with cfg := { demo.cfg with wsWords := 63 } }] :
      List State).all (fun s => decide (s.status.fatal = false ∧ s.status.rReady = true ∧ s.reverbRingOk = false ∧
        s.modelRingOk .rs1 = false ∧ s.echoRingOk = true ∧ s.rsReady .rs0 = true ∧ s.rsReady .rs1 = true)) = true ∧
    3 < demo.echo.cap.toNat ∧ 63 < demo.reverb.cap.toNat := by decide +kernel
theorem witness_OnlyWrWritesParameters : nextSat (exec .frame demo) (fun t => t.port.resp ≠ 7#4) = true := by
  decide +kernel
/-- Finite operands with a finite sum, with an overflowing one and with a zero one, the infinities, and a NaN. -/
theorem witness_AddSubRoundToNearestEven :
    fIsFinite fOne = true ∧ fIsFinite 0x33800000#32 = true ∧ fIsFinite 0x7F7FFFFF#32 = true ∧
    fIsFinite (fadd fOne 0x33800000#32) = true ∧ fIsFinite (fadd 0x7F7FFFFF#32 0x7F7FFFFF#32) = false ∧
    fIsInf 0x7F800000#32 = true ∧ fIsInf 0xFF800000#32 = true ∧ fSign 0x7F800000#32 ≠ fSign 0xFF800000#32 ∧
    fReal fOne + fReal 0xBF800000#32 = 0 ∧ fIsNaN 0x7F800001#32 = true := by decide +kernel
/-- The smallest subnormal halved is a tie; divisors that are not 0 and zeros of both signs; infinities; a NaN. -/
theorem witness_MulDivRoundToNearestEven :
    fIsFinite 0x00000001#32 = true ∧ fIsFinite fHalf = true ∧ fIsFinite 0x80000000#32 = true ∧
    fReal fHalf ≠ 0 ∧ fReal 0x80000000#32 = 0 ∧ fReal fZero = 0 ∧ fReal 0x00000001#32 ≠ 0 ∧
    fIsInf 0x7F800000#32 = true ∧ fIsInf 0xFF800000#32 = true ∧ fIsNaN 0xFFFFFFFF#32 = true := by decide +kernel
/-- R90: the largest values whose sum and product are still finite, and the first that are not. -/
theorem test_overflow_boundary :
    fadd 0x7F7FFFFF#32 0x72FFFFFF#32 = 0x7F7FFFFF#32 ∧ fadd 0x7F7FFFFF#32 0x73000000#32 = 0x7F800000#32 ∧
    fmul 0x5F7FFFFF#32 0xDF800000#32 = 0xFF7FFFFF#32 ∧ fmul 0x5F800000#32 0x5F800000#32 = 0x7F800000#32 ∧
    fdiv fOne 0x80000000#32 = 0xFF800000#32 := by decide +kernel
theorem witness_ComparisonsCompareValues :
    fIsFinite 0x80000000#32 = true ∧ fIsFinite 0x7F7FFFFF#32 = true ∧ fIsNaN 0x7F800001#32 = true ∧
    fIsNaN 0x7F800000#32 = false ∧ fIsNaN 0xFF800000#32 = false := by decide
theorem witness_SampleConversionsAreExact :
    (-32768 : Int) ≤ -32768 ∧ (32767 : Int) ≤ 32767 ∧ 0xFFFFFFFF < 2 ^ 32 ∧ fIsFinite 0xBFC00000#32 = true ∧
    fIsNaN 0x7FC00000#32 = true := by decide
theorem witness_QsinApproximatesTheSine :
    fle fZero fZero = true ∧ fle fZero fOne = true ∧ fle fOne fOne = true := by decide

end Sys2Proof.Tests
end

