-- ==== Sys2Proof/Proofs/Scope.lean ====
section
/-!
PROOFS. The statements of the scope (00_scope): `pow2ceil` is a power of two by its exponent `Nat.clog 2 n` (R9), and a
step on a presented command is `exec` of it (R7, R24, R70).
-/

namespace Sys2Proof.Machine

/-! ## `pow2ceil` -/

/-- The exponent `pow2ceil` takes is the rounded-up logarithm: both are at most `j` exactly when `n ≤ 2 ^ j`. -/
theorem log2_pred_add_one_eq_clog {n : Nat} (hn : 1 < n) : Nat.log2 (n - 1) + 1 = Nat.clog 2 n := by
  refine eq_of_forall_ge_iff fun j => ?_
  calc Nat.log2 (n - 1) + 1 ≤ j
      ↔ n - 1 < 2 ^ j := Nat.log2_lt (by omega)
    _ ↔ n ≤ 2 ^ j := by omega
    _ ↔ Nat.clog 2 n ≤ j := (Nat.clog_le_iff_le_pow Nat.one_lt_two).symm

theorem pow2ceil_eq_two_pow_clog (n : Nat) : pow2ceil n = 2 ^ Nat.clog 2 n := by
  unfold pow2ceil
  split
  next hn => rw [Nat.clog_of_right_le_one hn, Nat.pow_zero]
  next hn => rw [log2_pred_add_one_eq_clog (Nat.lt_of_not_le hn)]

theorem one_le_pow2ceil (n : Nat) : 1 ≤ pow2ceil n :=
  pow2ceil_eq_two_pow_clog n ▸ Nat.one_le_two_pow

theorem le_pow2ceil (n : Nat) : n ≤ pow2ceil n :=
  pow2ceil_eq_two_pow_clog n ▸ Nat.le_pow_clog Nat.one_lt_two n

/-- No smaller power of two is enough (R9). -/
theorem pow2ceil_le_two_pow {n j : Nat} (h : n ≤ 2 ^ j) : pow2ceil n ≤ 2 ^ j := by
  rw [pow2ceil_eq_two_pow_clog]
  exact Nat.pow_le_pow_right Nat.two_pos (Nat.clog_le_of_le_pow h)

/-- Settles O57: the power is `2 ^ Nat.clog 2 n`, for n = 0 as well. -/
theorem pow2ceilIsLeastPower : Obligations.Pow2ceilIsLeastPower := by
  intro n
  refine ⟨⟨Nat.clog 2 n, pow2ceil_eq_two_pow_clog n⟩, max_le (le_pow2ceil n) (one_le_pow2ceil n), fun j hj => ?_⟩
  exact pow2ceil_le_two_pow (le_of_max_le_left hj)

/-! ## The step on a presented command -/

theorem step_command {s : State} {rest : List HostEvent} {c w : Word} {i : Instr}
    (h : s.pending = .transaction c w :: rest) (hd : decode c = some i) :
    step s = exec i (s.present rest c w) := by
  rw [step, State.fetch_command h hd]

/-- Settles O6, by what fetching a word that decodes gives. -/
theorem presentedCommandIsRun : Obligations.PresentedCommandIsRun :=
  fun _ _ _ _ _ hp hd => step_command hp hd

end Sys2Proof.Machine
end

/-!
PROOFS. The statements of the state (10_state). Rounding is taken once, as a bound on what one addition or subtraction adds
to a value; from it the phase of a resampler stays in R33 and a driving tick ends before the watchdog. `Effect` says once
what a command can do, and the invariants that every step keeps are read off it.
-/

namespace Sys2Proof.Machine

/-! ## Rounding to 24 significant bits (R90) -/

/-- The value, in units of 2^-149, of the finite patterns whose bits 30:0 are `mag`. -/
def magUnits (mag : Nat) : Nat :=
  if mag / 2 ^ 23 = 0 then mag % 2 ^ 23 else (mag % 2 ^ 23 + 2 ^ 23) * 2 ^ (mag / 2 ^ 23 - 1)

theorem fUnits_eq_magUnits (x : F) : fUnits x = magUnits (fMag x) := rfl

/-- Exponent field and significand of a pattern: the significand may have carried to 2^24, and only the subnormals,
whose exponent counts as 0, have a significand below 2^23. -/
theorem magUnits_exponent_significand {e m : Nat} (hm : m ≤ 2 ^ 24) (h : e = 0 ∨ 2 ^ 23 ≤ m) :
    magUnits (e * 2 ^ 23 + m) = m * 2 ^ e := by
  unfold magUnits
  rcases Nat.lt_or_ge m (2 ^ 23) with hlow | hnormal
  · obtain rfl : e = 0 := by omega
    rw [if_pos (by omega), Nat.zero_mul, Nat.zero_add, Nat.mod_eq_of_lt hlow, Nat.pow_zero, Nat.mul_one]
  rcases Nat.lt_or_ge m (2 ^ 24) with hfits | hcarry
  · have hdiv : (e * 2 ^ 23 + m) / 2 ^ 23 = e + 1 := by omega
    have hmod : (e * 2 ^ 23 + m) % 2 ^ 23 + 2 ^ 23 = m := by omega
    rw [hdiv, hmod, if_neg (by omega), Nat.add_sub_cancel]
  · obtain rfl : m = 2 ^ 24 := by omega
    have hdiv : (e * 2 ^ 23 + 2 ^ 24) / 2 ^ 23 = e + 2 := by omega
    have hmod : (e * 2 ^ 23 + 2 ^ 24) % 2 ^ 23 = 0 := by omega
    rw [hdiv, hmod, if_neg (by omega), Nat.add_sub_assoc (by omega) e, Nat.pow_add]
    ring

theorem exists_exponent_significand (mag : Nat) :
    ∃ e m, mag = e * 2 ^ 23 + m ∧ m < 2 ^ 24 ∧ (e = 0 ∨ 2 ^ 23 ≤ m) := by
  rcases Nat.lt_or_ge mag (2 ^ 24) with h | h
  · exact ⟨0, mag, by omega, h, .inl rfl⟩
  · exact ⟨mag / 2 ^ 23 - 1, mag % 2 ^ 23 + 2 ^ 23, by omega, by omega, .inr (by omega)⟩

/-- Patterns of one sign are ordered as their values. -/
theorem magUnits_strictMono : StrictMono magUnits := by
  refine strictMono_nat_of_lt_succ fun mag => ?_
  obtain ⟨e, m, rfl, hm, h⟩ := exists_exponent_significand mag
  rw [Nat.add_assoc, magUnits_exponent_significand hm.le h, magUnits_exponent_significand hm (h.imp_right (by omega))]
  exact Nat.mul_lt_mul_of_pos_right (Nat.lt_succ_self m) (Nat.two_pow_pos e)

@[simp] theorem magUnits_zero : magUnits 0 = 0 := rfl

theorem fReal_fPack (s : Bool) {mag : Nat} (h : mag < 2 ^ 31) :
    fReal (fPack s mag) = if s then -(magUnits mag : Int) else (magUnits mag : Int) := by
  rw [fReal, fSign_fPack s h, fUnits_eq_magUnits, fMag_fPack s h]

/-! ### `roundShift`, `roundUnits` and `roundMag` -/

@[simp] theorem roundShift_zero_bits (m : Nat) : roundShift m 0 = m := by
  simp [roundShift, Nat.mod_one]

/-- The rounded quotient is at most half a unit above the exact one. -/
theorem two_mul_roundShift_mul_le (m k : Nat) : 2 * (roundShift m k * 2 ^ k) ≤ 2 * m + 2 ^ k := by
  have hdiv := Nat.div_add_mod' m (2 ^ k)
  unfold roundShift
  dsimp only
  split
  · rw [Nat.add_mul]
    omega
  · omega

theorem roundShift_mono {m n : Nat} (h : m ≤ n) (k : Nat) : roundShift m k ≤ roundShift n k := by
  rcases (Nat.div_le_div_right (c := 2 ^ k) h).lt_or_eq with hlt | heq
  · exact (roundShift_bounds m k).2.trans (Nat.succ_le_of_lt hlt |>.trans (roundShift_bounds n k).1)
  · have hm := Nat.div_add_mod m (2 ^ k)
    have hn := Nat.div_add_mod n (2 ^ k)
    rw [heq] at hm
    unfold roundShift
    dsimp only
    rw [heq]
    split_ifs <;> omega

theorem roundShift_two_pow_mul (j m k : Nat) : roundShift (2 ^ j * m) (j + k) = roundShift m k := by
  have hpos := Nat.two_pow_pos j
  unfold roundShift
  dsimp only
  rw [Nat.pow_add, Nat.mul_div_mul_left _ _ hpos, Nat.mul_mod_mul_left, Nat.mul_left_comm 2]
  simp only [Nat.mul_lt_mul_left hpos, Nat.mul_right_inj hpos.ne']

theorem bitLength_le_iff {m j : Nat} : bitLength m ≤ j ↔ m < 2 ^ j := by
  unfold bitLength
  split
  next h => simp [h]
  next h => exact Nat.log2_lt h

theorem bitLength_mono {m n : Nat} (h : m ≤ n) : bitLength m ≤ bitLength n :=
  bitLength_le_iff.2 (h.trans_lt (lt_two_pow_bitLength n))

theorem bitLength_two_pow_mul {m : Nat} (hm : m ≠ 0) (j : Nat) : bitLength (2 ^ j * m) = j + bitLength m := by
  refine eq_of_forall_ge_iff fun b => ?_
  rcases Nat.lt_or_ge b j with hb | hb
  · have hlow : ¬ 2 ^ j * m < 2 ^ b := not_lt.2 <|
      (Nat.pow_le_pow_right Nat.two_pos hb.le).trans (Nat.le_mul_of_pos_right _ (Nat.pos_of_ne_zero hm))
    rw [bitLength_le_iff]
    exact iff_of_false hlow (by omega)
  · obtain ⟨c, rfl⟩ := Nat.exists_eq_add_of_le hb
    rw [bitLength_le_iff, Nat.add_le_add_iff_left, bitLength_le_iff, Nat.pow_add,
      Nat.mul_lt_mul_left (Nat.two_pow_pos j)]

/-- A significand cut at or below its 24th bit from the top keeps at most 24 bits. -/
theorem roundShift_le_two_pow_24 {m sh : Nat} (h : bitLength m ≤ sh + 24) : roundShift m sh ≤ 2 ^ 24 := by
  have hdiv : m / 2 ^ sh < 2 ^ 24 := by
    rw [Nat.div_lt_iff_lt_mul (Nat.two_pow_pos sh), ← Nat.pow_add, Nat.add_comm]
    exact bitLength_le_iff.1 h
  have := (roundShift_bounds m sh).2
  omega

/-- A significand cut at its 24th bit from the top keeps that bit. -/
theorem two_pow_23_le_roundShift {m sh : Nat} (h : bitLength m = sh + 24) : 2 ^ 23 ≤ roundShift m sh := by
  have hm : m ≠ 0 := by
    rintro rfl
    simp [bitLength] at h
  have htop := two_pow_le_of_bitLength hm
  rw [h, show sh + 24 - 1 = 23 + sh by omega, Nat.pow_add, ← Nat.le_div_iff_mul_le (Nat.two_pow_pos sh)] at htop
  exact htop.trans (roundShift_bounds m sh).1

/-- `m` units rounded to 24 significant bits, to nearest, ties to even. -/
def roundUnits (m : Nat) : Nat := roundShift m (bitLength m - 24) * 2 ^ (bitLength m - 24)

@[simp] theorem roundUnits_zero : roundUnits 0 = 0 := rfl

/-- Rounding raises a value by at most one part in 2^24. -/
theorem two_pow_24_mul_roundUnits_le (m : Nat) : 2 ^ 24 * roundUnits m ≤ 2 ^ 24 * m + m := by
  unfold roundUnits
  rcases le_or_gt (bitLength m) 24 with hexact | hlong
  · rw [Nat.sub_eq_zero_of_le hexact, roundShift_zero_bits]
    omega
  · have htop : 2 ^ (bitLength m - 1) ≤ m := two_pow_le_of_bitLength (by rintro rfl; simp [bitLength] at hlong)
    rw [show bitLength m - 1 = 23 + (bitLength m - 24) by omega, Nat.pow_add] at htop
    have := two_mul_roundShift_mul_le m (bitLength m - 24)
    omega

/-- Rounding commutes with a scaling by a power of two. -/
theorem roundUnits_two_pow_mul {m : Nat} (j : Nat) (h : 24 ≤ bitLength m) :
    roundUnits (2 ^ j * m) = 2 ^ j * roundUnits m := by
  have hm : m ≠ 0 := by
    rintro rfl
    simp [bitLength] at h
  unfold roundUnits
  rw [bitLength_two_pow_mul hm, Nat.add_sub_assoc h, roundShift_two_pow_mul, Nat.pow_add]
  ring

/-- Below 2^252 units nothing overflows: the pattern `roundMag` gives is finite and its value is the rounded one. -/
theorem magUnits_roundMag {m : Nat} (h : m < 2 ^ 252) :
    roundMag m 149 < fInfMag ∧ magUnits (roundMag m 149) = roundUnits m := by
  have hlen : bitLength m ≤ 252 := bitLength_le_iff.2 h
  have hsig : roundShift m (bitLength m - 24) ≤ 2 ^ 24 := roundShift_le_two_pow_24 (by omega)
  have hcases : bitLength m - 24 = 0 ∨ 2 ^ 23 ≤ roundShift m (bitLength m - 24) :=
    Nat.eq_zero_or_pos (bitLength m - 24) |>.imp_right fun _ => two_pow_23_le_roundShift (by omega)
  have hfin : (bitLength m - 24) * 2 ^ 23 + roundShift m (bitLength m - 24) < fInfMag := by
    unfold fInfMag
    omega
  have hmag : roundMag m 149 = (bitLength m - 24) * 2 ^ 23 + roundShift m (bitLength m - 24) := by
    rw [roundMag, Nat.sub_self, Nat.max_zero, Nat.add_sub_cancel, min_eq_right hfin.le]
  rw [hmag]
  exact ⟨hfin, magUnits_exponent_significand hsig hcases⟩

/-- A larger value rounds to a pattern at least as large. -/
theorem roundMag_mono {m n k : Nat} (hk : 149 ≤ k) (h : m ≤ n) : roundMag m k ≤ roundMag n k := by
  have hlen := bitLength_mono h
  refine min_le_min_left _ ?_
  generalize hm : max (bitLength m - 24) (k - 149) = sh
  generalize hn : max (bitLength n - 24) (k - 149) = sh'
  rcases (show sh ≤ sh' by omega).lt_or_eq with hlt | rfl
  · have hlow : roundShift m sh ≤ 2 ^ 24 := roundShift_le_two_pow_24 (by omega)
    have hhigh : 2 ^ 23 ≤ roundShift n sh' := two_pow_23_le_roundShift (by omega)
    omega
  · exact Nat.add_le_add_left (roundShift_mono h sh) _

theorem roundUnits_mono {m n : Nat} (hn : n < 2 ^ 252) (h : m ≤ n) : roundUnits m ≤ roundUnits n := by
  rw [← (magUnits_roundMag (h.trans_lt hn)).2, ← (magUnits_roundMag hn).2]
  exact magUnits_strictMono.monotone (roundMag_mono le_rfl h)

/-! ## Values of finite operands -/

theorem fIsFinite_iff {x : F} : fIsFinite x = true ↔ fMag x < fInfMag := decide_eq_true_iff

theorem fIsNaN_of_finite {x : F} (h : fIsFinite x = true) : fIsNaN x = false :=
  decide_eq_false (fIsFinite_iff.1 h).not_gt

theorem fIsInf_of_finite {x : F} (h : fIsFinite x = true) : fIsInf x = false :=
  decide_eq_false (fIsFinite_iff.1 h).ne

/-- The order on the number line is the order of the values. -/
theorem fKey_lt_iff_fReal_lt (x y : F) : fKey x < fKey y ↔ fReal x < fReal y := by
  have hlt (a b : Nat) : magUnits a < magUnits b ↔ a < b := magUnits_strictMono.lt_iff_lt
  have hpos (a : Nat) : 0 < magUnits a ↔ 0 < a := hlt 0 a
  have hxy := hlt (fMag x) (fMag y)
  have hyx := hlt (fMag y) (fMag x)
  have hx := hpos (fMag x)
  have hy := hpos (fMag y)
  unfold fKey fReal
  rw [fUnits_eq_magUnits, fUnits_eq_magUnits]
  cases fSign x <;> cases fSign y <;> simp only [if_true, Bool.false_eq_true, if_false] <;> omega

theorem flt_iff {x y : F} (hx : fIsNaN x = false) (hy : fIsNaN y = false) :
    flt x y = true ↔ fReal x < fReal y := by
  simp [flt, hx, hy, fKey_lt_iff_fReal_lt]

theorem fle_iff {x y : F} (hx : fIsNaN x = false) (hy : fIsNaN y = false) :
    fle x y = true ↔ fReal x ≤ fReal y := by
  rw [fle_or_flt hy hx, Bool.not_eq_true', ← Bool.not_eq_true, flt_iff hy hx, not_lt]

/-- A finite sum that is not negative and far from overflow is the exact sum rounded once. -/
theorem fAddNonNaN_of_nonneg {x y : F} (hx : fIsFinite x = true) (hy : fIsFinite y = true)
    (h0 : 0 ≤ fReal x + fReal y) (hlt : fReal x + fReal y < 2 ^ 252) :
    fIsFinite (fAddNonNaN x y) = true ∧ fReal (fAddNonNaN x y) = roundUnits (fReal x + fReal y).toNat := by
  unfold fAddNonNaN
  rw [fIsInf_of_finite hx, fIsInf_of_finite hy]
  generalize fReal x + fReal y = t at h0 hlt ⊢
  simp only [Bool.false_eq_true, if_false]
  split
  next hzero =>
    subst hzero
    rw [fIsFinite_iff, fMag_fPack _ (by norm_num), fReal_fPack _ (by norm_num)]
    simp [fInfMag]
  next hne =>
    obtain ⟨n, rfl⟩ := Int.eq_ofNat_of_zero_le h0
    obtain ⟨hfin, hval⟩ := magUnits_roundMag (m := n) (by omega)
    have hbound : roundMag n 149 < 2 ^ 31 := hfin.trans (by norm_num [fInfMag])
    rw [fIsFinite_iff, Int.natAbs_natCast, fMag_fPack _ hbound, fReal_fPack _ hbound, hval]
    simp [hfin]

theorem fadd_of_nonneg {x y : F} (hx : fIsFinite x = true) (hy : fIsFinite y = true)
    (h0 : 0 ≤ fReal x + fReal y) (hlt : fReal x + fReal y < 2 ^ 252) :
    fIsFinite (fadd x y) = true ∧ fReal (fadd x y) = roundUnits (fReal x + fReal y).toNat := by
  have hadd : fadd x y = fAddNonNaN x y := by
    simp [fadd, fIsNaN_of_finite hx, fIsNaN_of_finite hy, fIsInf_of_finite hx]
  rw [hadd]
  exact fAddNonNaN_of_nonneg hx hy h0 hlt

theorem fsub_of_nonneg {x y : F} (hx : fIsFinite x = true) (hy : fIsFinite y = true)
    (h0 : 0 ≤ fReal x - fReal y) (hlt : fReal x - fReal y < 2 ^ 252) :
    fIsFinite (fsub x y) = true ∧ fReal (fsub x y) = roundUnits (fReal x - fReal y).toNat := by
  have hsub : fsub x y = fAddNonNaN x (fNeg y) := by
    simp [fsub, fIsNaN_of_finite hx, fIsNaN_of_finite hy, fIsInf_of_finite hx]
  have hneg : fIsFinite (fNeg y) = true := by rwa [fIsFinite_iff, fMag_fNeg, ← fIsFinite_iff]
  rw [sub_eq_add_neg, ← fReal_fNeg] at h0 hlt ⊢
  rw [hsub]
  exact fAddNonNaN_of_nonneg hx hneg h0 hlt

/-! ## The range of a resampler's period and phase (R33) -/

theorem fReal_fOne : fReal fOne = 2 ^ 149 := by decide +kernel

/-- A pattern at a finite place of the number line is finite. -/
theorem fIsFinite_of_fKey {x : F} (h0 : 0 ≤ fKey x) (h : fKey x < 0x7F800000) : fIsFinite x = true := by
  rw [fIsFinite_iff, fInfMag]
  unfold fKey at h0 h
  split at h <;> split at h0 <;> omega

theorem fKey_le_of_fle {x y : F} (h : fle x y = true) :
    fIsNaN x = false ∧ fIsNaN y = false ∧ fKey x ≤ fKey y := by
  simpa [fle, and_assoc] using h

theorem fKey_lt_of_flt {x y : F} (h : flt x y = true) :
    fIsNaN x = false ∧ fIsNaN y = false ∧ fKey x < fKey y := by
  simpa [flt, and_assoc] using h

/-- R33 in terms of values: period and phase are finite, 2^-8 ≤ period ≤ 2^8 and 0 ≤ phase < period. -/
theorem Rs.inRange_iff (r : Rs) :
    r.InRange ↔ fIsFinite r.period = true ∧ fIsFinite r.phase = true ∧
      2 ^ 141 ≤ fReal r.period ∧ fReal r.period ≤ 2 ^ 157 ∧
      0 ≤ fReal r.phase ∧ fReal r.phase < fReal r.period := by
  have hlo : fReal 0x3B800000#32 = 2 ^ 141 := by decide +kernel
  have hhi : fReal 0x43800000#32 = 2 ^ 157 := by decide +kernel
  have hzero : fReal fZero = 0 := by decide +kernel
  have hnans : fIsNaN 0x3B800000#32 = false ∧ fIsNaN 0x43800000#32 = false ∧ fIsNaN fZero = false := by decide
  obtain ⟨nlo, nhi, nzero⟩ := hnans
  constructor
  · rintro ⟨h1, h2, h3, h4⟩
    obtain ⟨-, hper, k1⟩ := fKey_le_of_fle h1
    obtain ⟨-, -, k2⟩ := fKey_le_of_fle h2
    obtain ⟨-, hph, k3⟩ := fKey_le_of_fle h3
    obtain ⟨-, -, k4⟩ := fKey_lt_of_flt h4
    rw [show fKey 0x3B800000#32 = 0x3B800000 by decide] at k1
    rw [show fKey 0x43800000#32 = 0x43800000 by decide] at k2
    rw [show fKey fZero = 0 by decide] at k3
    rw [fle_iff nlo hper, hlo] at h1
    rw [fle_iff hper nhi, hhi] at h2
    rw [fle_iff nzero hph, hzero] at h3
    rw [flt_iff hph hper] at h4
    refine ⟨fIsFinite_of_fKey ?_ ?_, fIsFinite_of_fKey ?_ ?_, h1, h2, h3, h4⟩ <;> omega
  · rintro ⟨hper, hph, h1, h2, h3, h4⟩
    have nper := fIsNaN_of_finite hper
    have nph := fIsNaN_of_finite hph
    unfold Rs.InRange
    rw [fle_iff nlo nper, fle_iff nper nhi, fle_iff nzero nph, flt_iff nph nper, hlo, hhi, hzero]
    exact ⟨h1, h2, h3, h4⟩

/-! ### The phase inside a driving tick (R125, R126) -/

/-- What holds of the phase `x` after k producer calls of a driving tick: it is finite and not negative, and each of the
k + 1 roundings has added at most 2^-15 of a period to the exact phase + 1 − k·period. -/
def Rs.PhaseWithin (r : Rs) (k : Nat) (x : F) : Prop :=
  fIsFinite x = true ∧ 0 ≤ fReal x ∧
  2 ^ 15 * (fReal x + k * fReal r.period) ≤
    2 ^ 15 * (2 ^ 149 + fReal r.phase) + (k + 1) * fReal r.period

section PhaseBound

variable {r : Rs} {k n : Nat} {x : F}

/-- Inside a tick a phase of at most period + 1 rounds by at most 2^-15 of a period, because 1 ≤ 2^8 · period. -/
theorem roundUnits_within {t p : Int} (h0 : 0 ≤ t) (hp : 2 ^ 141 ≤ p) (ht : t ≤ 2 ^ 149 + p) :
    2 ^ 15 * (roundUnits t.toNat : Int) ≤ 2 ^ 15 * t + p := by
  obtain ⟨m, rfl⟩ := Int.eq_ofNat_of_zero_le h0
  have := two_pow_24_mul_roundUnits_le m
  rw [Int.toNat_natCast]
  omega

theorem Rs.PhaseWithin.advance (h : r.InRange) : r.PhaseWithin 0 (fadd r.phase fOne) := by
  obtain ⟨-, hfin, hlo, hhi, h0, hlt⟩ := r.inRange_iff.1 h
  have hsum : 0 ≤ fReal r.phase + fReal fOne := by rw [fReal_fOne]; omega
  have hsum' : fReal r.phase + fReal fOne < 2 ^ 252 := by rw [fReal_fOne]; omega
  obtain ⟨hf, hv⟩ := fadd_of_nonneg hfin (by decide) hsum hsum'
  have hround := roundUnits_within hsum hlo (by rw [fReal_fOne]; omega)
  rw [fReal_fOne] at hround hv
  refine ⟨hf, hv ▸ Int.natCast_nonneg _, ?_⟩
  rw [hv, Nat.cast_zero, zero_mul, add_zero, zero_add, one_mul]
  omega

/-- A call is made only where the phase has reached the period, so k + 1 calls fit into phase + 1 and one period
more. -/
theorem Rs.PhaseWithin.call_bound (h : r.InRange) (hx : r.PhaseWithin k x) (hle : fle r.period x = true) :
    k + 1 ≤ 257 ∧ fReal x + k * fReal r.period ≤ 2 ^ 149 + fReal r.phase + fReal r.period := by
  obtain ⟨hper, -, hlo, hhi, -, hlt⟩ := r.inRange_iff.1 h
  obtain ⟨hfin, -, hbound⟩ := hx
  rw [fle_iff (fIsNaN_of_finite hper) (fIsNaN_of_finite hfin)] at hle
  generalize fReal r.period = p at *
  have hcalls : (2 ^ 15 - 1) * ((k : Int) + 1) * p < 2 ^ 15 * 257 * p := by
    linarith
  have hk : (2 ^ 15 - 1) * ((k : Int) + 1) < 2 ^ 15 * 257 := lt_of_mul_lt_mul_right hcalls (by omega)
  have hk' : (k : Int) + 1 ≤ 257 := by omega
  have : ((k : Int) + 1) * p ≤ 257 * p := Int.mul_le_mul_of_nonneg_right hk' (by omega)
  exact ⟨by omega, by linarith⟩

theorem Rs.PhaseWithin.call (h : r.InRange) (hx : r.PhaseWithin k x) (hle : fle r.period x = true) :
    r.PhaseWithin (k + 1) (fsub x r.period) := by
  obtain ⟨hk, htop⟩ := hx.call_bound h hle
  obtain ⟨hper, -, hlo, hhi, -, hlt⟩ := r.inRange_iff.1 h
  obtain ⟨hfin, h0, hbound⟩ := hx
  rw [fle_iff (fIsNaN_of_finite hper) (fIsNaN_of_finite hfin)] at hle
  have hkp : 0 ≤ (k : Int) * fReal r.period := mul_nonneg (Int.natCast_nonneg k) (by omega)
  have hdiff : fReal x - fReal r.period < 2 ^ 252 := by omega
  obtain ⟨hf, hv⟩ := fsub_of_nonneg hfin hper (by omega) hdiff
  have hround := roundUnits_within (t := fReal x - fReal r.period) (by omega) hlo (by omega)
  refine ⟨hf, hv ▸ Int.natCast_nonneg _, ?_⟩
  rw [hv]
  push_cast
  linarith

/-- Through all the calls of a driving tick the phase keeps to its bound. -/
theorem Rs.phaseAfter_within (h : r.InRange) :
    ∀ n, (∀ k, k < n → fle r.period (r.phaseAfter k) = true) → r.PhaseWithin n (r.phaseAfter n)
  | 0, _ => .advance h
  | n + 1, hcalls =>
    r.phaseAfter_succ n ▸
      (Rs.phaseAfter_within h n fun k hk => hcalls k (by omega)).call h (hcalls n (Nat.lt_succ_self n))

/-- R126 (d): a driving tick calls its producer at most floor(1/period) + 2 times, and 1/period ≤ 2^8. -/
theorem Rs.calls_le (h : r.InRange) (hcalls : ∀ k, k < n → fle r.period (r.phaseAfter k) = true) :
    n ≤ 257 ∧ n ≤ 2 ^ 149 / fUnits r.period + 2 := by
  cases n with
  | zero => exact ⟨by omega, Nat.zero_le _⟩
  | succ k =>
    have hx := Rs.phaseAfter_within h k fun j hj => hcalls j (by omega)
    have hle := hcalls k (Nat.lt_succ_self k)
    obtain ⟨hk, htop⟩ := hx.call_bound h hle
    obtain ⟨hper, -, hlo, hhi, -, hlt⟩ := r.inRange_iff.1 h
    rw [fle_iff (fIsNaN_of_finite hper) (fIsNaN_of_finite hx.1)] at hle
    have hunits : fReal r.period = fUnits r.period := by
      unfold fReal at hlo ⊢
      split_ifs at hlo ⊢ <;> omega
    have hfit : ((k : Int) - 1) * fUnits r.period ≤ 2 ^ 149 := by
      rw [← hunits]
      linarith
    refine ⟨hk, ?_⟩
    rw [← Nat.sub_le_iff_le_add, Nat.le_div_iff_mul_le (by omega)]
    rcases k with _ | k
    · simp
    · push_cast at hfit
      rw [add_sub_cancel_right] at hfit
      exact_mod_cast hfit

end PhaseBound

/-- Where the loop hits its bound the phase had reached the period before every call and once more. -/
theorem fle_of_rsLoop_eq_none {σ : Type} {producer : σ → F → F → σ × F × F} {inL inR : F} :
    ∀ {fuel : Nat} {r : Rs} {m : σ}, rsLoop producer inL inR fuel r m = none →
      ∀ k, k ≤ fuel → fle r.period ((fun p => fsub p r.period)^[k] r.phase) = true := by
  intro fuel
  induction fuel with
  | zero =>
    intro r m h k hk
    obtain rfl : k = 0 := by omega
    simpa [rsLoop] using h
  | succ fuel ih =>
    intro r m h k hk
    cases hle : fle r.period r.phase with
    | false =>
      rw [rsLoop_exit _ hle] at h
      simp at h
    | true =>
      rw [rsLoop_call fuel hle] at h
      cases k with
      | zero => exact hle
      | succ k => exact ih h k (by omega)

/-- R127: a resampler in the range of R33 never runs into the watchdog. -/
theorem rsProcess_ne_none {σ : Type} (producer : σ → F → F → σ × F × F) {r : Rs} (h : r.InRange) (m : σ) (inL inR : F) :
    rsProcess producer r m inL inR ≠ none := by
  intro hnone
  have hloop : rsLoop producer inL inR Config.rsFuel { r with phase := fadd r.phase fOne } m = none := by
    unfold rsProcess at hnone
    split at hnone
    next hl => exact hl
    next => simp at hnone
  have hcalls := (Rs.calls_le (n := 258) h fun k hk =>
    fle_of_rsLoop_eq_none hloop k (by unfold Config.rsFuel; omega)).1
  omega

/-- A driving tick keeps R33. -/
theorem Rs.FollowsCalls.inRange {r r' : Rs} {out : Nat → F × F} {n : Nat} (hf : r.FollowsCalls r' out n)
    (h : r.InRange) : r'.InRange := by
  obtain ⟨hcalls, hphase, hexit, -, -, hper, -, -⟩ := hf
  obtain ⟨hfin, h0, -⟩ := Rs.phaseAfter_within h n hcalls
  rw [← hphase] at hfin h0
  obtain ⟨pfin, -, hlo, hhi, -, -⟩ := r.inRange_iff.1 h
  rw [← Bool.not_eq_true, fle_iff (fIsNaN_of_finite pfin) (fIsNaN_of_finite hfin), not_le] at hexit
  rw [Rs.inRange_iff, hper]
  exact ⟨pfin, hfin, hlo, hhi, h0, hexit⟩

/-! ### Construction (R121, R122) -/

theorem bitLength_mul_two_pow_149 {n : Nat} (hn : n ≠ 0) : 24 ≤ bitLength (n * 2 ^ 149) := by
  rw [Nat.mul_comm, bitLength_two_pow_mul hn]
  omega

/-- U32toF rounds the integer once to 24 bits (R91). -/
theorem u32ToF_value {n : Nat} (h : n < 2 ^ 32) :
    fIsFinite (u32ToF n) = true ∧ fSign (u32ToF n) = false ∧ fUnits (u32ToF n) = roundUnits (n * 2 ^ 149) := by
  obtain ⟨hfin, hval⟩ := magUnits_roundMag (m := n * 2 ^ 149) (by omega)
  have hpack : u32ToF n = fPack false (roundMag (n * 2 ^ 149) 149) := by
    rw [u32ToF, fOfInt, decide_eq_false (Int.natCast_nonneg n).not_gt, Int.natAbs_natCast]
  rw [hpack, fIsFinite_iff, fUnits_eq_magUnits, fMag_fPack_roundMag,
    fSign_fPack _ (hfin.trans (by norm_num [fInfMag]))]
  exact ⟨hfin, rfl, hval⟩

theorem fUnits_u32ToF_pos {n : Nat} (h : n < 2 ^ 32) (h0 : n ≠ 0) : 0 < fUnits (u32ToF n) := by
  have hone : roundUnits (2 ^ 149) = 2 ^ 149 := by decide +kernel
  rw [(u32ToF_value h).2.2]
  calc 0 < roundUnits (2 ^ 149) := by rw [hone]; norm_num
    _ ≤ roundUnits (n * 2 ^ 149) := roundUnits_mono (by omega) (by omega)

/-- The ratio bound of two rates outlives their rounding, because 2^8 is a power of two. -/
theorem fUnits_u32ToF_le {a b : Nat} (ha : a < 2 ^ 32) (hb : b < 2 ^ 32) (hb0 : b ≠ 0) (h : a ≤ 256 * b) :
    fUnits (u32ToF a) ≤ 2 ^ 8 * fUnits (u32ToF b) := by
  rw [(u32ToF_value ha).2.2, (u32ToF_value hb).2.2, ← roundUnits_two_pow_mul 8 (bitLength_mul_two_pow_149 hb0)]
  exact roundUnits_mono (by omega) (by omega)

/-- The quotient of x by y, not 0: 320 fraction bits and the sticky bit below them, as `fdiv` rounds it (R90). -/
def quotientBits (x y : Nat) : Nat := 2 * (x * 2 ^ 320 / y) + if x * 2 ^ 320 % y = 0 then 0 else 1

theorem fdiv_of_finite {x y : F} (hx : fIsFinite x = true) (hy : fIsFinite y = true) (hy0 : 0 < fUnits y) :
    fdiv x y = fPack (fSign x != fSign y) (roundMag (quotientBits (fUnits x) (fUnits y)) 321) := by
  have hmag : fMag y ≠ 0 := fun h => by
    rw [fUnits_eq_magUnits, h] at hy0
    exact absurd hy0 (lt_irrefl 0)
  simp only [fdiv, fIsNaN_of_finite hx, fIsNaN_of_finite hy, fIsInf_of_finite hx, fIsInf_of_finite hy, hmag,
    decide_false, Bool.and_false, Bool.or_false, Bool.false_eq_true, if_false]
  rfl

theorem le_quotientBits {x y lo : Nat} (hy : 0 < y) (h : 2 ^ lo * y ≤ x * 2 ^ 320) : 2 * 2 ^ lo ≤ quotientBits x y := by
  have := (Nat.le_div_iff_mul_le hy).2 h
  unfold quotientBits
  omega

/-- The sticky bit does not pass a power of two that the exact quotient does not pass. -/
theorem quotientBits_le {x y hi : Nat} (hy : 0 < y) (h : x * 2 ^ 320 ≤ 2 ^ hi * y) : quotientBits x y ≤ 2 * 2 ^ hi := by
  unfold quotientBits
  split
  next hexact =>
    have := Nat.div_le_of_le_mul (h.trans_eq (Nat.mul_comm _ _))
    omega
  next hrem =>
    have hne : x * 2 ^ 320 ≠ 2 ^ hi * y := fun heq => hrem (heq ▸ Nat.mul_mod_left _ _)
    have := (Nat.div_lt_iff_lt_mul hy).2 (lt_of_le_of_ne h hne)
    omega

theorem fKey_fPack_false {mag : Nat} (h : mag < 2 ^ 31) : fKey (fPack false mag) = mag := by
  rw [fKey, fSign_fPack _ h, fMag_fPack _ h, if_neg Bool.false_ne_true]

theorem rsRatesOk_iff {a b : Nat} : rsRatesOk a b = true ↔ a ≠ 0 ∧ b ≠ 0 ∧ a ≤ 256 * b ∧ b ≤ 256 * a := by
  simp only [rsRatesOk, Bool.and_eq_true, decide_eq_true_eq, and_assoc]
  rfl

/-- R122: for rates that RSINIT accepts the period lies between 2^-8 and 2^8. -/
theorem rsPeriod_eq_fPack {a b : Word} (h : rsRatesOk a.toNat b.toNat = true) :
    ∃ mag, rsPeriod a b = fPack false mag ∧ 0x3B800000 ≤ mag ∧ mag ≤ 0x43800000 := by
  obtain ⟨ha0, hb0, hab, hba⟩ := rsRatesOk_iff.1 h
  obtain ⟨hfa, hsa, -⟩ := u32ToF_value a.isLt
  obtain ⟨hfb, hsb, -⟩ := u32ToF_value b.isLt
  have hpos := fUnits_u32ToF_pos b.isLt hb0
  have hxy := fUnits_u32ToF_le a.isLt b.isLt hb0 hab
  have hyx := fUnits_u32ToF_le b.isLt a.isLt ha0 hba
  refine ⟨roundMag (quotientBits (fUnits (u32ToF a.toNat)) (fUnits (u32ToF b.toNat))) 321, ?_, ?_, ?_⟩
  · rw [rsPeriod, fdiv_of_finite hfa hfb hpos, hsa, hsb]
    rfl
  · calc 0x3B800000 = roundMag (2 * 2 ^ 312) 321 := by decide +kernel
      _ ≤ _ := roundMag_mono (by norm_num) (le_quotientBits hpos (by omega))
  · calc _ ≤ roundMag (2 * 2 ^ 328) 321 := roundMag_mono (by norm_num) (quotientBits_le hpos (by omega))
      _ = 0x43800000 := by decide +kernel

/-- RSINIT leaves a resampler that satisfies R33. -/
theorem Rs.construct_inRange {a b : Word} (h : rsRatesOk a.toNat b.toNat = true) : (Rs.construct a b).InRange := by
  obtain ⟨mag, hper, hlo, hhi⟩ := rsPeriod_eq_fPack h
  have hkey : fKey (rsPeriod a b) = mag := hper ▸ fKey_fPack_false (by omega)
  have hfin : fIsNaN (rsPeriod a b) = false := by
    refine fIsNaN_of_finite (fIsFinite_of_fKey ?_ ?_) <;> omega
  have hconst : fKey 0x3B800000#32 = 0x3B800000 ∧ fKey 0x43800000#32 = 0x43800000 ∧ fKey fZero = 0 ∧
      fIsNaN 0x3B800000#32 = false ∧ fIsNaN 0x43800000#32 = false ∧ fIsNaN fZero = false := by decide
  obtain ⟨klo, khi, kzero, nlo, nhi, nzero⟩ := hconst
  simp only [Rs.InRange, Rs.construct, fle, flt, hfin, hkey, klo, khi, kzero, nlo, nhi, nzero, Bool.not_false,
    Bool.true_and, decide_eq_true_eq]
  omega

/-- RSCLR keeps R33. -/
theorem Rs.InRange.clear {r : Rs} (h : r.InRange) : r.clear.InRange := by
  obtain ⟨hper, -, hlo, hhi, h0, hlt⟩ := r.inRange_iff.1 h
  have hzero : fReal fZero = 0 := by decide +kernel
  refine r.clear.inRange_iff.2 ⟨hper, (by decide : fIsFinite fZero = true), hlo, hhi, hzero.ge, ?_⟩
  exact hzero.trans_lt (h0.trans_lt hlt)

/-! ## What native ticks leave alone (R148, R181) -/

/-- The registers of the echo model that no native tick writes: settings, coefficients, rate, capacity, increment. -/
structure Echo.SameSettings (e e' : Echo) : Prop where
  getCfg : ∀ p, e'.getCfg p = e.getCfg p
  getMod : ∀ p, e'.getMod p = e.getMod p
  firc : e'.firc = e.firc
  rate : e'.rate = e.rate
  cap : e'.cap = e.cap
  inc : e'.inc = e.inc

theorem Echo.SameSettings.refl (e : Echo) : e.SameSettings e := ⟨fun _ => rfl, fun _ => rfl, rfl, rfl, rfl, rfl⟩

theorem Echo.SameSettings.trans {e e' e'' : Echo} (h : e.SameSettings e') (h' : e'.SameSettings e'') :
    e.SameSettings e'' where
  getCfg p := (h'.getCfg p).trans (h.getCfg p)
  getMod p := (h'.getMod p).trans (h.getMod p)
  firc := h'.firc.trans h.firc
  rate := h'.rate.trans h.rate
  cap := h'.cap.trans h.cap
  inc := h'.inc.trans h.inc

theorem Echo.tick_sameSettings (e : Echo) (inL inR : F) : e.SameSettings (e.tick inL inR).1 where
  getCfg p := by cases p <;> rfl
  getMod p := by cases p <;> rfl
  firc := rfl
  rate := rfl
  cap := rfl
  inc := rfl

theorem Echo.afterTicks_sameSettings (e : Echo) (inL inR : F) : ∀ n, e.SameSettings (e.afterTicks inL inR n)
  | 0 => .refl e
  | n + 1 => e.afterTicks_succ inL inR n ▸ (e.afterTicks_sameSettings inL inR n).trans (tick_sameSettings _ _ _)

/-- The registers of the reverb model that no native tick writes: all but the cursor. -/
structure Reverb.SameSettings (v v' : Reverb) : Prop where
  rate : v'.rate = v.rate
  cap : v'.cap = v.cap
  preset : v'.preset = v.preset
  ring : v'.ring = v.ring
  gains : v'.gains = v.gains
  lines : v'.lines = v.lines

section ReverbSettings

variable {v v' v'' : Reverb}

theorem Reverb.SameSettings.refl (v : Reverb) : v.SameSettings v := ⟨rfl, rfl, rfl, rfl, rfl, rfl⟩

theorem Reverb.SameSettings.trans (h : v.SameSettings v') (h' : v'.SameSettings v'') : v.SameSettings v'' where
  rate := h'.rate.trans h.rate
  cap := h'.cap.trans h.cap
  preset := h'.preset.trans h.preset
  ring := h'.ring.trans h.ring
  gains := h'.gains.trans h.gains
  lines := h'.lines.trans h.lines

theorem Reverb.SameSettings.reflect (h : v.SameSettings v') {x : F} {d m : Word} :
    v.SameSettings (v'.reflect x d m) :=
  h.trans ⟨rfl, rfl, rfl, rfl, rfl, rfl⟩

theorem Reverb.SameSettings.apf (h : v.SameSettings v') {x g : F} {m d : Word} :
    v.SameSettings (v'.apf x m d g).1 :=
  h.trans ⟨rfl, rfl, rfl, rfl, rfl, rfl⟩

theorem Reverb.SameSettings.advance (h : v.SameSettings v') : v.SameSettings v'.advance :=
  h.trans ⟨rfl, rfl, rfl, rfl, rfl, rfl⟩

/-- The stages of R181 in their order, and the cursor's advance. -/
theorem Reverb.tick_sameSettings (v : Reverb) (inL inR : F) : v.SameSettings (v.tick inL inR).1 := by
  simp only [Reverb.tick]
  exact (SameSettings.refl v).reflect.reflect.apf.apf.apf.apf.reflect.reflect.advance

theorem Reverb.afterTicks_sameSettings (v : Reverb) (inL inR : F) : ∀ n, v.SameSettings (v.afterTicks inL inR n)
  | 0 => .refl v
  | n + 1 => v.afterTicks_succ inL inR n ▸ (v.afterTicks_sameSettings inL inR n).trans (tick_sameSettings _ _ _)

end ReverbSettings

/-! ## A driving tick of a resampler (R124, R125) -/

/-- Period and rates are the only registers of a resampler that a driving tick leaves. -/
theorem Rs.FollowsCalls.get_eq {r r' : Rs} {out : Nat → F × F} {n : Nat} (h : r.FollowsCalls r' out n) {k : RsField}
    (hk : ¬ (k ≠ .period ∧ k ≠ .driving ∧ k ≠ .driven)) : r'.get k = r.get k := by
  obtain ⟨-, -, -, -, -, hper, hdriving, hdriven⟩ := h
  cases k with
  | period => exact hper
  | driving => exact hdriving
  | driven => exact hdriven
  | _ => exact absurd ⟨nofun, nofun, nofun⟩ hk

/-- Everything a driving tick of resampler 0 does. -/
theorem State.rsTick_rs0_effect {s t : State} (h : s.rsTick .rs0 = some t) :
    ∃ n r, s.rs0.FollowsCalls r (s.echo.outputAt s.samples.r0 s.samples.r1) n ∧
      t = { s with rs0 := r, echo := s.echo.afterTicks s.samples.r0 s.samples.r1 n }.setEchoOut
        r.output.1 r.output.2 := by
  obtain ⟨r, e, l, o, hp, rfl⟩ := State.rsTick_rs0 h
  obtain ⟨n, -, rfl, hf, hout⟩ := rsProcess_followsCalls hp
  obtain ⟨rfl, rfl⟩ := Prod.mk.inj hout
  exact ⟨n, r, hf, rfl⟩

/-- Everything a driving tick of resampler 1 does. -/
theorem State.rsTick_rs1_effect {s t : State} (h : s.rsTick .rs1 = some t) :
    ∃ n r, s.rs1.FollowsCalls r (s.reverb.outputAt s.samples.r0 s.samples.r1) n ∧
      t = { s with rs1 := r, reverb := s.reverb.afterTicks s.samples.r0 s.samples.r1 n }.setReverbOut
        r.output.1 r.output.2 := by
  obtain ⟨r, v, l, o, hp, rfl⟩ := State.rsTick_rs1 h
  obtain ⟨n, -, rfl, hf, hout⟩ := rsProcess_followsCalls hp
  obtain ⟨rfl, rfl⟩ := Prod.mk.inj hout
  exact ⟨n, r, hf, rfl⟩

/-- R127: from R33 a driving tick does not end in the watchdog. -/
theorem State.rsTick_of_inRange {s : State} {u : RsId} (h : (s.rs u).InRange) : ∃ t, s.rsTick u = some t := by
  refine Option.ne_none_iff_exists'.1 fun hnone => ?_
  cases u with
  | rs0 =>
    simp only [State.rsTick] at hnone
    split at hnone
    next hp => exact rsProcess_ne_none _ h _ _ _ hp
    next => simp at hnone
  | rs1 =>
    simp only [State.rsTick] at hnone
    split at hnone
    next hp => exact rsProcess_ne_none _ h _ _ _ hp
    next => simp at hnone

theorem Bank.get_setEchoOut {b : Bank 32} (l r : F) :
    ∀ {i : Fin 8}, ¬ (i = 2 ∨ i = 3) → ({ b with r2 := l, r3 := r } : Bank 32).get i = b.get i
  | 2, h => absurd (.inl rfl) h
  | 3, h => absurd (.inr rfl) h
  | 0, _ | 1, _ | 4, _ | 5, _ | 6, _ | 7, _ => rfl

theorem Bank.get_setReverbOut {b : Bank 32} (l r : F) :
    ∀ {i : Fin 8}, ¬ (i = 4 ∨ i = 5) → ({ b with r4 := l, r5 := r } : Bank 32).get i = b.get i
  | 4, h => absurd (.inl rfl) h
  | 5, h => absurd (.inr rfl) h
  | 0, _ | 1, _ | 2, _ | 3, _ | 6, _ | 7, _ => rfl

/-- The frame of a driving tick: its resampler, the output pair, its producer's model. -/
theorem State.rsTick_frame {s t : State} {u : RsId} (h : s.rsTick u = some t) :
    Frame s t (Reg.writtenByRstick u) (fun _ => u = .rs0) (fun _ => u = .rs1) := by
  cases u with
  | rs0 =>
    obtain ⟨n, r, hf, rfl⟩ := State.rsTick_rs0_effect h
    have hkept := s.echo.afterTicks_sameSettings s.samples.r0 s.samples.r1 n
    refine ⟨fun a ha => ?_, fun _ hi => absurd rfl hi, fun _ _ => rfl, rfl, rfl, rfl, rfl, rfl⟩
    cases a with
    | sample i => exact Bank.get_setEchoOut _ _ fun hi => ha (.inl ⟨rfl, hi⟩)
    | ecfg p => exact hkept.getCfg p
    | emod p => exact hkept.getMod p
    | firc i => exact congrArg (fun b : Bank 8 => (b.get i).signExtend 32) hkept.firc
    | eRate => exact hkept.rate
    | eCap => exact hkept.cap
    | eInc => exact hkept.inc
    | eLen | eWidx | eCand | eeff | firh => exact absurd rfl ha
    | rs v k =>
      cases v with
      | rs0 => exact hf.get_eq fun hk => ha ⟨rfl, hk⟩
      | rs1 => rfl
    | _ => rfl
  | rs1 =>
    obtain ⟨n, r, hf, rfl⟩ := State.rsTick_rs1_effect h
    have hkept := s.reverb.afterTicks_sameSettings s.samples.r0 s.samples.r1 n
    refine ⟨fun a ha => ?_, fun _ _ => rfl, fun _ hi => absurd rfl hi, rfl, rfl, rfl, rfl, rfl⟩
    cases a with
    | sample i => exact Bank.get_setReverbOut _ _ fun hi => ha (.inr ⟨rfl, hi⟩)
    | rRate => exact hkept.rate
    | rCap => exact hkept.cap
    | rPreset => exact hkept.preset
    | rRing => exact hkept.ring
    | gain g => exact congrArg (gainOf · g) hkept.gains
    | line l => exact congrArg (lineOf · l) hkept.lines
    | rCur => exact absurd rfl ha
    | rs v k =>
      cases v with
      | rs0 => rfl
      | rs1 => exact hf.get_eq fun hk => ha ⟨rfl, hk⟩
    | _ => rfl

/-- Answering OK is outside every frame. -/
theorem Frame.respondOk {s t : State} {regs : Reg → Prop} {eb ws : Nat → Prop} (h : Frame s t regs eb ws) :
    Frame s t.respondOk regs eb ws := by
  obtain ⟨hreg, hrest⟩ := h
  exact ⟨fun a ha => (t.readReg_respondOk a).trans (hreg a ha), hrest⟩

theorem State.answered_respondOk (t : State) : t.respondOk.Answered .ok 0#32 := ⟨rfl, rfl⟩

/-- RSTICK where every check passes and the watchdog is not reached. -/
theorem exec_rstick_of_rsTick {s t : State} {u : RsId} (hlive : s.status.fatal = false) (hready : s.rsReady u = true)
    (hring : s.modelRingOk u = true) (ht : s.rsTick u = some t) : exec (.rstick u) s = .next t.respondOk := by
  show execRstick u s = _
  rw [execRstick, checkLive_of_live hlive, hready, check_true, hring, requireRam_true, ht]

/-- Settles O34: the phase bound of `Rs.PhaseWithin` limits the calls, so the loop ends before the watchdog, and
`Rs.FollowsCalls` says what it leaves. -/
theorem rstickCompletesFromItsInvariant : Obligations.RstickCompletesFromItsInvariant := by
  intro s u hlive hready hring hrange
  obtain ⟨t, ht⟩ := State.rsTick_of_inRange hrange
  have hexec := exec_rstick_of_rsTick hlive hready hring ht
  have hframe := (State.rsTick_frame ht).respondOk
  cases u with
  | rs0 =>
    obtain ⟨n, r, hf, rfl⟩ := State.rsTick_rs0_effect ht
    exact ⟨_, n, hexec, State.answered_respondOk _, (Rs.calls_le hrange hf.1).2, hf.inRange hrange,
      fun _ => ⟨rfl, hf, rfl, rfl⟩, nofun, hframe⟩
  | rs1 =>
    obtain ⟨n, r, hf, rfl⟩ := State.rsTick_rs1_effect ht
    exact ⟨_, n, hexec, State.answered_respondOk _, (Rs.calls_le hrange hf.1).2, hf.inRange hrange,
      nofun, fun _ => ⟨rfl, hf, rfl, rfl⟩, hframe⟩

/-! ## Everything a command can do -/

/-- What a command that answers a next state makes of `s`: it answers and changes nothing, its constructor fails, the
watchdog ends it, or it runs, with what its checks (R238) have established. -/
inductive Effect (s : State) : Instr → State → Prop
  | answer (i : Instr) (r : Response) (v : Word) (hr : r ≠ .watchdog) : Effect s i (s.respond r v)
  | constructorFails (i : Instr) (e : Response) (u : UnitId) (he : e = .param ∨ e = .capacity) :
    Effect s i (s.takeError e (some u))
  | wr (a : Nat) (r : Reg) : Effect s (.wr a) (s.writeReg r s.port.wdata).respondOk
  | ebwr (idx : Nat) (v : Half) (hidx : idx < s.cfg.ebWords) :
    Effect s (.ebwr idx) { s with echo := { s.echo with eb := s.echo.eb.write idx v } }.respondOk
  | wswr (idx : Nat) (v : Word) (hidx : idx < s.cfg.wsWords) :
    Effect s (.wswr idx) { s with reverb := { s.reverb with ws := s.reverb.ws.write idx v } }.respondOk
  | einit (hcap : 1 ≤ s.arg1.toNat) (hwords : s.arg1.toNat ≤ s.cfg.ebWords) :
    Effect s .einit { s with
      echo := s.echo.construct s.arg0 s.arg1, status := s.status.setReady .echo true }.respondOk
  | rinit (p : Nat) (preset : Preset) (hwords : s.arg1.toNat ≤ s.cfg.wsWords)
      (hring : reverbRing s.cfg.presets s.arg0.toNat ≤ s.arg1.toNat)
      (hfits : presetFits preset s.arg0.toNat (reverbRing s.cfg.presets s.arg0.toNat) = true) :
    Effect s (.rinit p) { s with
      reverb := s.reverb.construct p preset s.arg0 s.arg1 (reverbRing s.cfg.presets s.arg0.toNat)
      status := s.status.setReady .reverb true }.respondOk
  | rsinit (u : RsId) (hrates : rsRatesOk s.arg0.toNat s.arg1.toNat = true) :
    Effect s (.rsinit u) ({ s with status := s.status.setReady (.rs u) true }.setRs u
      (Rs.construct s.arg0 s.arg1)).respondOk
  | eclr (hcap : s.echo.cap.toNat ≤ s.cfg.ebWords) : Effect s .eclr { s with echo := s.echo.clear }.respondOk
  | rclr (hcap : s.reverb.cap.toNat ≤ s.cfg.wsWords) : Effect s .rclr { s with reverb := s.reverb.clear }.respondOk
  | rsclr (u : RsId) (hready : s.status.ready (.rs u) = true) :
    Effect s (.rsclr u) (s.setRs u (s.rs u).clear).respondOk
  | etick (e : Echo) (l r : F) (hready : s.status.eReady = true) (hring : s.echoRingOk = true)
      (htick : s.echo.tick s.samples.r0 s.samples.r1 = (e, l, r)) :
    Effect s .etick ({ s with echo := e }.setEchoOut l r).respondOk
  | rtick (v : Reverb) (l r : F) (hready : s.status.rReady = true) (hring : s.reverbRingOk = true)
      (htick : s.reverb.tick s.samples.r0 s.samples.r1 = (v, l, r)) :
    Effect s .rtick ({ s with reverb := v }.setReverbOut l r).respondOk
  | rstick (u : RsId) (t : State) (hready : s.rsReady u = true) (hring : s.modelRingOk u = true)
      (ht : s.rsTick u = some t) : Effect s (.rstick u) t.respondOk
  | rstickWatchdog (u : RsId) (hready : s.rsReady u = true) (ht : s.rsTick u = none) :
    Effect s (.rstick u) (s.takeWatchdog u false)
  | mix : Effect s .mix s.mix.respondOk
  | frame (s1 s2 : State) (hready0 : s.rsReady .rs0 = true) (hready1 : s.rsReady .rs1 = true)
      (hring0 : s.echoRingOk = true) (hring1 : s.reverbRingOk = true)
      (ht0 : s.rsTick .rs0 = some s1) (ht1 : s1.rsTick .rs1 = some s2) : Effect s .frame s2.mix.respondOk
  | frameWatchdog0 (hready0 : s.rsReady .rs0 = true) (ht0 : s.rsTick .rs0 = none) :
    Effect s .frame (s.takeWatchdog .rs0 true)
  | frameWatchdog1 (s1 : State) (hready0 : s.rsReady .rs0 = true) (hready1 : s.rsReady .rs1 = true)
      (ht0 : s.rsTick .rs0 = some s1) (ht1 : s1.rsTick .rs1 = none) :
    Effect s .frame (s1.takeWatchdog .rs1 true)

section Effect

variable {s t : State} {i : Instr} {k : Result}

theorem Effect.of_checkLive (h : checkLive s k = .next t) (hk : s.status.fatal = false → k = .next t → Effect s i t) :
    Effect s i t := by
  obtain ⟨-, rfl⟩ | ⟨hlive, h⟩ := checkLive_next h
  · exact .answer i .halted 0#32 nofun
  · exact hk hlive h

theorem Effect.of_check {ok : Bool} {e : Response} (h : check ok e s k = .next t) (he : e ≠ .watchdog)
    (hk : ok = true → k = .next t → Effect s i t) : Effect s i t := by
  obtain ⟨-, rfl⟩ | ⟨hok, h⟩ := check_next h
  · exact .answer i e 0#32 he
  · exact hk hok h

theorem Effect.of_checkFatal {ok : Bool} {e : Response} {u : UnitId} (h : checkFatal ok e u s k = .next t)
    (he : e = .param ∨ e = .capacity) (hk : ok = true → k = .next t → Effect s i t) : Effect s i t := by
  obtain ⟨-, rfl⟩ | ⟨hok, h⟩ := checkFatal_next h
  · exact .constructorFails i e u he
  · exact hk hok h

/-- One passage through the checks of each command's meaning, in their order. -/
theorem exec_effect (h : exec i s = .next t) : Effect s i t := by
  cases i with
  | nop =>
    obtain rfl := Host.Outcome.next.inj h
    exact .answer .nop .ok 0#32 nofun
  | wr a =>
    refine .of_checkLive h fun _ h => ?_
    split at h
    next =>
      obtain rfl := Host.Outcome.next.inj h
      exact .answer _ .range 0#32 nofun
    next r _ =>
      refine .of_check h nofun fun _ h => ?_
      obtain rfl := Host.Outcome.next.inj h
      exact .wr a r
  | rd a =>
    replace h : execRd a s = .next t := h
    unfold execRd at h
    split at h
    next =>
      obtain rfl := Host.Outcome.next.inj h
      exact .answer _ .range 0#32 nofun
    next r _ =>
      obtain rfl := Host.Outcome.next.inj h
      exact .answer _ .ok _ nofun
  | ebrd idx =>
    refine .of_check h nofun fun _ h => ?_
    obtain rfl := Host.Outcome.next.inj h
    exact .answer _ .ok _ nofun
  | wsrd idx =>
    refine .of_check h nofun fun _ h => ?_
    obtain rfl := Host.Outcome.next.inj h
    exact .answer _ .ok _ nofun
  | ebwr idx =>
    refine .of_checkLive h fun _ h => .of_check h nofun fun hidx h => ?_
    obtain rfl := Host.Outcome.next.inj h
    exact .ebwr idx _ (of_decide_eq_true hidx)
  | wswr idx =>
    refine .of_checkLive h fun _ h => .of_check h nofun fun hidx h => ?_
    obtain rfl := Host.Outcome.next.inj h
    exact .wswr idx _ (of_decide_eq_true hidx)
  | einit =>
    refine .of_checkLive h fun _ h => .of_checkFatal h (.inl rfl) fun hargs h =>
      .of_checkFatal h (.inr rfl) fun _ h => ?_
    simp only [Bool.and_eq_true, decide_eq_true_eq] at hargs
    obtain ⟨⟨-, hcap⟩, hwords⟩ := hargs
    obtain rfl := Host.Outcome.next.inj h
    exact .einit (Nat.one_le_iff_ne_zero.2 hcap) hwords
  | rinit p =>
    refine .of_checkLive h fun _ h => ?_
    split at h
    next =>
      obtain rfl := Host.Outcome.next.inj h
      exact .answer _ .range 0#32 nofun
    next preset _ =>
      refine .of_checkFatal h (.inl rfl) fun hargs h => .of_checkFatal h (.inr rfl) fun hfits h => ?_
      simp only [Bool.and_eq_true, decide_eq_true_eq] at hargs hfits
      obtain rfl := Host.Outcome.next.inj h
      exact .rinit p preset hargs.2 hfits.1 hfits.2
  | rsinit u =>
    refine .of_checkLive h fun _ h => .of_checkFatal h (.inl rfl) fun hrates h => ?_
    obtain rfl := Host.Outcome.next.inj h
    cases u <;> exact .rsinit _ hrates
  | eclr =>
    refine .of_checkLive h fun _ h => .of_check h nofun fun _ h => ?_
    obtain ⟨hcap, h⟩ := requireRam_next h
    obtain rfl := Host.Outcome.next.inj h
    exact .eclr (of_decide_eq_true hcap)
  | rclr =>
    refine .of_checkLive h fun _ h => .of_check h nofun fun _ h => ?_
    obtain ⟨hcap, h⟩ := requireRam_next h
    obtain rfl := Host.Outcome.next.inj h
    exact .rclr (of_decide_eq_true hcap)
  | rsclr u =>
    refine .of_checkLive h fun _ h => .of_check h nofun fun hready h => ?_
    obtain rfl := Host.Outcome.next.inj h
    exact .rsclr u hready
  | etick =>
    refine .of_checkLive h fun _ h => .of_check h nofun fun hready h => ?_
    obtain ⟨hring, h⟩ := requireRam_next h
    generalize htick : s.echo.tick s.samples.r0 s.samples.r1 = p at h
    obtain ⟨e, l, r⟩ := p
    obtain rfl := Host.Outcome.next.inj h
    exact .etick e l r hready hring htick
  | rtick =>
    refine .of_checkLive h fun _ h => .of_check h nofun fun hready h => ?_
    obtain ⟨hring, h⟩ := requireRam_next h
    generalize htick : s.reverb.tick s.samples.r0 s.samples.r1 = p at h
    obtain ⟨v, l, r⟩ := p
    obtain rfl := Host.Outcome.next.inj h
    exact .rtick v l r hready hring htick
  | rstick u =>
    refine .of_checkLive h fun _ h => .of_check h nofun fun hready h => ?_
    obtain ⟨hring, h⟩ := requireRam_next h
    split at h
    next ht =>
      obtain rfl := Host.Outcome.next.inj h
      exact .rstickWatchdog u hready ht
    next ht =>
      obtain rfl := Host.Outcome.next.inj h
      exact .rstick u _ hready hring ht
  | mix =>
    refine .of_checkLive h fun _ h => ?_
    obtain rfl := Host.Outcome.next.inj h
    exact .mix
  | frame =>
    refine .of_checkLive h fun _ h => .of_check h nofun fun hready h => ?_
    obtain ⟨hring0, h⟩ := requireRam_next h
    obtain ⟨hring1, h⟩ := requireRam_next h
    simp only [Bool.and_eq_true] at hready
    obtain ⟨⟨⟨he, hr⟩, h0⟩, h1⟩ := hready
    have hready0 : s.rsReady .rs0 = true := Bool.and_eq_true_iff.2 ⟨h0, he⟩
    have hready1 : s.rsReady .rs1 = true := Bool.and_eq_true_iff.2 ⟨h1, hr⟩
    split at h
    next ht0 =>
      obtain rfl := Host.Outcome.next.inj h
      exact .frameWatchdog0 hready0 ht0
    next s1 ht0 =>
      split at h
      next ht1 =>
        obtain rfl := Host.Outcome.next.inj h
        exact .frameWatchdog1 s1 hready0 hready1 ht0 ht1
      next s2 ht1 =>
        obtain rfl := Host.Outcome.next.inj h
        exact .frame s1 s2 hready0 hready1 hring0 hring1 ht0 ht1

/-- An invariant that does not read the port and the host's events, holds after a reset and outlives every command is
kept by every step: an illegal word only answers. -/
theorem step_keeps {P : State → Prop} (hreset : ∀ s : State, P s.hardReset)
    (hpresent : ∀ s rest c w, P s → P (s.present rest c w))
    (heffect : ∀ s i t, P s → Effect s i t → P t) (hs : P s) (h : step s = .next t) : P t := by
  obtain ⟨-, rfl⟩ | ⟨rest, -, rfl⟩ | ⟨rest, c, w, -, -, rfl⟩ | ⟨rest, c, w, i, -, -, h⟩ := step_cases h
  · exact hs
  · exact hreset _
  · exact heffect _ .nop _ (hpresent s rest c w hs) (.answer .nop .illegal 0#32 nofun)
  · exact heffect _ i _ (hpresent s rest c w hs) (exec_effect h)

end Effect

/-! ### `mix` -/

@[simp] theorem State.mix_cfg (s : State) : s.mix.cfg = s.cfg := s.setFrameOut_cfg _ _

@[simp] theorem State.mix_xfade (s : State) : s.mix.xfade = s.xfade := s.setFrameOut_xfade _ _

@[simp] theorem State.mix_wetdry (s : State) : s.mix.wetdry = s.wetdry := s.setFrameOut_wetdry _ _

@[simp] theorem State.mix_arg0 (s : State) : s.mix.arg0 = s.arg0 := s.setFrameOut_arg0 _ _

@[simp] theorem State.mix_arg1 (s : State) : s.mix.arg1 = s.arg1 := s.setFrameOut_arg1 _ _

@[simp] theorem State.mix_echo (s : State) : s.mix.echo = s.echo := s.setFrameOut_echo _ _

@[simp] theorem State.mix_reverb (s : State) : s.mix.reverb = s.reverb := s.setFrameOut_reverb _ _

@[simp] theorem State.mix_rs0 (s : State) : s.mix.rs0 = s.rs0 := s.setFrameOut_rs0 _ _

@[simp] theorem State.mix_rs1 (s : State) : s.mix.rs1 = s.rs1 := s.setFrameOut_rs1 _ _

@[simp] theorem State.mix_status (s : State) : s.mix.status = s.status := s.setFrameOut_status _ _

/-! ## STATUS (R25, R240) -/

theorem State.rsTick_status {s t : State} {u : RsId} (h : s.rsTick u = some t) : t.status = s.status := by
  cases u with
  | rs0 =>
    obtain ⟨n, r, -, rfl⟩ := State.rsTick_rs0_effect h
    simp
  | rs1 =>
    obtain ⟨n, r, -, rfl⟩ := State.rsTick_rs1_effect h
    simp

@[simp] theorem State.writeReg_status (s : State) (r : Reg) (v : Word) : (s.writeReg r v).status = s.status := by
  cases r <;> rfl

/-- What a command can do to STATUS: nothing, set a READY bit, or latch a fatal code and clear a READY bit. -/
theorem Effect.status {s t : State} {i : Instr} (h : Effect s i t) :
    t.status = s.status ∨ (∃ u, t.status = s.status.setReady u true) ∨
      ∃ c u, (c = 5#8 ∨ c = 6#8 ∨ c = 7#8) ∧ t.status = (s.status.latchFatal c).setReady u false := by
  cases h with
  | constructorFails _ e u he =>
    obtain rfl | rfl := he
    · exact .inr (.inr ⟨_, u, .inl rfl, s.takeError_some_status _ u⟩)
    · exact .inr (.inr ⟨_, u, .inr (.inl rfl), s.takeError_some_status _ u⟩)
  | einit => exact .inr (.inl ⟨.echo, State.respondOk_status _⟩)
  | rinit => exact .inr (.inl ⟨.reverb, State.respondOk_status _⟩)
  | rsinit u => exact .inr (.inl ⟨.rs u, by simp⟩)
  | rstick u t _ _ ht => exact .inl (by rw [State.respondOk_status, State.rsTick_status ht])
  | frame s1 s2 _ _ _ _ ht0 ht1 =>
    exact .inl (by rw [State.respondOk_status, State.mix_status, State.rsTick_status ht1, State.rsTick_status ht0])
  | rstickWatchdog u => exact .inr (.inr ⟨_, _, .inr (.inr rfl), s.takeWatchdog_status u false⟩)
  | frameWatchdog0 => exact .inr (.inr ⟨_, _, .inr (.inr rfl), s.takeWatchdog_status .rs0 true⟩)
  | frameWatchdog1 s1 _ _ ht0 =>
    exact .inr (.inr ⟨_, _, .inr (.inr rfl), State.rsTick_status ht0 ▸ s1.takeWatchdog_status .rs1 true⟩)
  | _ => exact .inl (by simp)

/-- Only a reset clears FATAL (R244). -/
theorem Effect.fatal {s t : State} {i : Instr} (h : Effect s i t) (hf : s.status.fatal = true) :
    t.status.fatal = true := by
  obtain hst | ⟨u, hst⟩ | ⟨c, u, -, hst⟩ := h.status <;> simp [hst, hf]

theorem Effect.statusOk {s t : State} {i : Instr} (hs : s.StatusOk) (h : Effect s i t) : t.StatusOk := by
  unfold State.StatusOk at hs ⊢
  obtain hst | ⟨u, hst⟩ | ⟨c, u, hc, hst⟩ := h.status
  · rwa [hst]
  · simpa only [hst, Status.setReady_fatal, Status.setReady_fcode] using hs
  · simpa only [hst, Status.setReady_fatal, Status.setReady_fcode, Status.latchFatal_fatal,
      Status.latchFatal_fcode] using ⟨nofun, fun _ => hc⟩

/-- Settles O49: a command keeps FCODE, or latches it together with FATAL. -/
theorem stepKeepsStatusLegal : Obligations.StepKeepsStatusLegal :=
  fun _ _ hs h => step_keeps (P := State.StatusOk) (fun _ => ⟨fun _ => rfl, nofun⟩) (fun _ _ _ _ hs => hs)
    (fun _ _ _ hs h => h.statusOk hs) hs h

/-- Where FATAL excuses an invariant, only commands that leave FATAL = 0 have to keep it. -/
theorem Effect.fatal_or {s t : State} {i : Instr} {I J : Prop} (hs : s.status.fatal = true ∨ I) (h : Effect s i t)
    (hk : I → t.status.fatal = true ∨ J) : t.status.fatal = true ∨ J :=
  hs.elim (fun hf => .inl (h.fatal hf)) hk

/-! ## The rings (R28, R30, R32) -/

/-- R28 of an echo model in a RAM of `words` words. -/
def Echo.RingIn (e : Echo) (words : Nat) : Prop :=
  1 ≤ e.len.toNat ∧ e.len.toNat ≤ e.cap.toNat ∧ e.cap.toNat ≤ words ∧ e.widx.toNat < e.len.toNat ∧ 1 ≤ e.inc.toNat

theorem State.echoOk_iff (s : State) : s.EchoOk ↔ s.echo.RingIn s.cfg.ebWords := Iff.rfl

theorem Echo.candidate_bounds (e : Echo) (h : 1 ≤ e.cap.toNat) : 1 ≤ e.candidate ∧ e.candidate ≤ e.cap.toNat := by
  unfold Echo.candidate echoCand
  omega

/-- A native tick keeps R28: the length changes only to a candidate, and only where the new write index is 0. -/
theorem Echo.RingIn.tick {e : Echo} {words : Nat} (h : e.RingIn words) (inL inR : F) :
    (e.tick inL inR).1.RingIn words := by
  obtain ⟨hlen, hcap, hwords, hwidx, hinc⟩ := h
  obtain ⟨hcand, hcand'⟩ := e.candidate_bounds (by omega)
  have hidx : e.nextIndex < e.len.toNat := Nat.mod_lt _ hlen
  have hnext : 1 ≤ e.nextLen ∧ e.nextLen ≤ e.cap.toNat ∧ e.nextIndex < e.nextLen := by
    unfold Echo.nextLen
    split <;> omega
  have hcap32 := e.cap.isLt
  have tick_len : (e.tick inL inR).1.len.toNat = e.nextLen := Nat.mod_eq_of_lt (by omega)
  have tick_widx : (e.tick inL inR).1.widx.toNat = e.nextIndex := Nat.mod_eq_of_lt (by omega)
  obtain ⟨h1, h2, h3⟩ := hnext
  unfold Echo.RingIn
  rw [tick_len, tick_widx]
  exact ⟨h1, h2, hwords, h3, hinc⟩

theorem Echo.RingIn.afterTicks {e : Echo} {words : Nat} (h : e.RingIn words) (inL inR : F) :
    ∀ n, (e.afterTicks inL inR n).RingIn words
  | 0 => h
  | n + 1 => e.afterTicks_succ inL inR n ▸ (h.afterTicks inL inR n).tick inL inR

/-- EINIT establishes R28: the ring is the whole capacity and the increment at least 1. -/
theorem Echo.construct_ringIn (e : Echo) {rate cap : Word} {words : Nat} (hcap : 1 ≤ cap.toNat)
    (hwords : cap.toNat ≤ words) : (e.construct rate cap).RingIn words := by
  have hrate := rate.isLt
  have hinc : (e.construct rate cap).inc.toNat = echoIncrement rate.toNat := by
    refine Nat.mod_eq_of_lt ?_
    unfold echoIncrement Config.echoIncMs
    omega
  refine ⟨hcap, le_rfl, hwords, hcap, ?_⟩
  rw [hinc]
  exact le_max_left _ _

/-- R30 and R32 of a reverb model in a RAM of `words` words. -/
def Reverb.RingIn (v : Reverb) (words : Nat) : Prop :=
  (∃ k, v.ring.toNat = 2 ^ k) ∧ v.ring.toNat ≤ v.cap.toNat ∧ v.cap.toNat ≤ words ∧ v.cur.toNat < v.ring.toNat ∧
  ∀ a ∈ v.lines.toList, a.toNat < v.ring.toNat

theorem State.reverbOk_iff (s : State) : s.ReverbOk ↔ s.reverb.RingIn s.cfg.wsWords := Iff.rfl

/-- A native tick keeps R30 and R32: only the cursor moves, modulo the ring. -/
theorem Reverb.RingIn.tick {v : Reverb} {words : Nat} (h : v.RingIn words) (inL inR : F) :
    (v.tick inL inR).1.RingIn words := by
  obtain ⟨hpow, hcap, hwords, hcur, hlines⟩ := h
  have hkept := v.tick_sameSettings inL inR
  have hmod : (v.cur.toNat + 1) % v.ring.toNat < v.ring.toNat := Nat.mod_lt _ (by omega)
  have hring := v.ring.isLt
  unfold Reverb.RingIn
  rw [hkept.ring, hkept.cap, hkept.lines, Reverb.tick_cur, BitVec.toNat_ofNat, Nat.mod_eq_of_lt (by omega)]
  exact ⟨hpow, hcap, hwords, hmod, hlines⟩

theorem Reverb.RingIn.afterTicks {v : Reverb} {words : Nat} (h : v.RingIn words) (inL inR : F) :
    ∀ n, (v.afterTicks inL inR n).RingIn words
  | 0 => h
  | n + 1 => v.afterTicks_succ inL inR n ▸ (h.afterTicks inL inR n).tick inL inR

theorem Lines.toList_map {α β : Type} (f : α → β) (l : Lines α) : (l.map f).toList = l.toList.map f := rfl

/-- RINIT establishes R30 and R32: the ring is a power of two and every scaled address was checked against it. -/
theorem Reverb.construct_ringIn (v : Reverb) {p words ring : Nat} {preset : Preset} {rate cap : Word}
    (hpow : ∃ k, ring = 2 ^ k) (hring : ring ≤ cap.toNat) (hwords : cap.toNat ≤ words)
    (hfits : presetFits preset rate.toNat ring = true) : (v.construct p preset rate cap ring).RingIn words := by
  have hcap := cap.isLt
  have ring_toNat : (v.construct p preset rate cap ring).ring.toNat = ring := Nat.mod_eq_of_lt (by omega)
  unfold Reverb.RingIn
  rw [ring_toNat]
  refine ⟨hpow, hring, hwords, ?_, fun a ha => ?_⟩
  · obtain ⟨k, rfl⟩ := hpow
    exact Nat.two_pow_pos k
  · obtain ⟨d, hd, rfl⟩ := List.mem_map.1 (Lines.toList_map _ preset.lines ▸ ha)
    have hlt := of_decide_eq_true (List.all_eq_true.1 hfits d hd)
    rw [BitVec.toNat_ofNat]
    exact (Nat.mod_le _ _).trans_lt hlt

theorem reverbRing_two_pow (ps : List Preset) (rate : Nat) : ∃ k, reverbRing ps rate = 2 ^ k :=
  ⟨_, pow2ceil_eq_two_pow_clog _⟩

/-- The constructed models satisfy their ring invariants. -/
def State.RingsIn (s : State) : Prop :=
  (s.status.eReady = true → s.echo.RingIn s.cfg.ebWords) ∧ (s.status.rReady = true → s.reverb.RingIn s.cfg.wsWords)

theorem State.ringsOk_iff (s : State) : s.RingsOk ↔ s.status.fatal = true ∨ s.RingsIn := Iff.rfl

/-- WR reaches none of the registers of the rings. -/
theorem State.RingsIn.writeReg {s : State} (h : s.RingsIn) (r : Reg) (v : Word) : (s.writeReg r v).RingsIn := by
  cases r with
  | ecfg p => cases p <;> exact h
  | emod p => cases p <;> exact h
  | _ => exact h

/-- The rings are registers of the two models; READY and the configuration say what is asked of them. -/
theorem State.RingsIn.congr {s t : State} (h : s.RingsIn) (hcfg : t.cfg = s.cfg := by simp)
    (he : t.status.eReady = s.status.eReady := by simp) (hr : t.status.rReady = s.status.rReady := by simp)
    (hecho : t.echo = s.echo := by simp) (hreverb : t.reverb = s.reverb := by simp) : t.RingsIn := by
  unfold State.RingsIn
  rwa [hcfg, he, hr, hecho, hreverb]

/-- A new echo model with R28 in place, constructed by EINIT or ticked. -/
theorem State.RingsIn.setEcho {s t : State} (h : s.RingsIn)
    (he : t.status.eReady = true → t.echo.RingIn s.cfg.ebWords) (hcfg : t.cfg = s.cfg := by simp)
    (hr : t.status.rReady = s.status.rReady := by simp) (hreverb : t.reverb = s.reverb := by simp) :
    t.RingsIn := by
  obtain ⟨-, hrev⟩ := h
  unfold State.RingsIn
  rw [hcfg, hr, hreverb]
  exact ⟨he, hrev⟩

/-- A new reverb model with R30 and R32 in place, constructed by RINIT or ticked. -/
theorem State.RingsIn.setReverb {s t : State} (h : s.RingsIn)
    (hr : t.status.rReady = true → t.reverb.RingIn s.cfg.wsWords) (hcfg : t.cfg = s.cfg := by simp)
    (he : t.status.eReady = s.status.eReady := by simp) (hecho : t.echo = s.echo := by simp) : t.RingsIn := by
  obtain ⟨hech, -⟩ := h
  unfold State.RingsIn
  rw [hcfg, he, hecho]
  exact ⟨hech, hr⟩

theorem State.RingsIn.rsTick {s t : State} {u : RsId} (h : s.RingsIn) (ht : s.rsTick u = some t) : t.RingsIn := by
  have ⟨he, hr⟩ := h
  cases u with
  | rs0 =>
    obtain ⟨n, r, -, rfl⟩ := State.rsTick_rs0_effect ht
    exact h.setEcho (by simpa using fun hready => (he hready).afterTicks _ _ n)
  | rs1 =>
    obtain ⟨n, r, -, rfl⟩ := State.rsTick_rs1_effect ht
    exact h.setReverb (by simpa using fun hready => (hr hready).afterTicks _ _ n)

theorem State.takeWatchdog_fatal (s : State) (u : RsId) (f : Bool) : (s.takeWatchdog u f).status.fatal = true := by
  simp [s.takeWatchdog_status]

theorem State.takeError_some_fatal (s : State) (e : Response) (u : UnitId) :
    (s.takeError e (some u)).status.fatal = true := by
  simp [State.takeError_some_status]

theorem Effect.ringsOk {s t : State} {i : Instr} (hs : s.RingsOk) (h : Effect s i t) : t.RingsOk := by
  refine h.fatal_or (s.ringsOk_iff.1 hs) fun hin => ?_
  have ⟨he, hr⟩ := hin
  cases h with
  | answer => exact .inr hin
  | constructorFails _ e u => exact .inl (s.takeError_some_fatal e u)
  | wr a r => exact .inr (hin.writeReg r s.port.wdata).congr
  | ebwr => exact .inr (hin.setEcho he)
  | wswr => exact .inr (hin.setReverb hr)
  | einit hcap hwords =>
    exact .inr (hin.setEcho (fun _ => s.echo.construct_ringIn hcap hwords) (hr := by simp [Status.setReady]))
  | rinit p preset hwords hring hfits =>
    exact .inr (hin.setReverb (fun _ => s.reverb.construct_ringIn (reverbRing_two_pow _ _) hring hwords hfits)
      (he := by simp [Status.setReady]))
  | rsinit u =>
    have hst : (s.status.setReady (.rs u) true).eReady = s.status.eReady ∧
        (s.status.setReady (.rs u) true).rReady = s.status.rReady := by cases u <;> exact ⟨rfl, rfl⟩
    exact .inr (hin.congr (he := by simpa using hst.1) (hr := by simpa using hst.2))
  | eclr => exact .inr (hin.setEcho he)
  | rclr => exact .inr (hin.setReverb hr)
  | rsclr u => exact .inr hin.congr
  | etick e l r hready _ htick =>
    have hnew := (he hready).tick s.samples.r0 s.samples.r1
    rw [htick] at hnew
    exact .inr (hin.setEcho fun _ => hnew)
  | rtick v l r hready _ htick =>
    have hnew := (hr hready).tick s.samples.r0 s.samples.r1
    rw [htick] at hnew
    exact .inr (hin.setReverb fun _ => hnew)
  | rstick u t _ _ ht => exact .inr (hin.rsTick ht).congr
  | mix => exact .inr hin.congr
  | frame s1 s2 _ _ _ _ ht0 ht1 => exact .inr ((hin.rsTick ht0).rsTick ht1).congr
  | rstickWatchdog u => exact .inl (s.takeWatchdog_fatal u _)
  | frameWatchdog0 => exact .inl (s.takeWatchdog_fatal _ _)
  | frameWatchdog1 s1 => exact .inl (s1.takeWatchdog_fatal _ _)

/-- Settles O47: construction establishes the rings, a native tick keeps them, and no other command writes their
registers but the watchdog, which sets FATAL. -/
theorem stepKeepsRings : Obligations.StepKeepsRings :=
  fun _ _ hs h => step_keeps (P := State.RingsOk) (fun _ => .inr ⟨nofun, nofun⟩) (fun _ _ _ _ hs => hs)
    (fun _ _ _ hs h => h.ringsOk hs) hs h

/-! ## The resamplers (R33) -/

/-- The constructed resamplers satisfy R33. -/
def State.ResamplersIn (s : State) : Prop := ∀ u, s.status.ready (.rs u) = true → (s.rs u).InRange

theorem State.resamplersOk_iff (s : State) : s.ResamplersOk ↔ s.status.fatal = true ∨ s.ResamplersIn := Iff.rfl

theorem State.ResamplersIn.writeReg {s : State} (h : s.ResamplersIn) (r : Reg) (v : Word) :
    (s.writeReg r v).ResamplersIn := by
  cases r <;> exact h

@[simp] theorem State.rs_withStatus (s : State) (st : Status) (u : RsId) : { s with status := st }.rs u = s.rs u := by
  cases u <;> rfl

/-- The instances and their READY bits are all that is read. -/
theorem State.ResamplersIn.congr {s t : State} (h : s.ResamplersIn)
    (hready : ∀ u, t.status.ready (.rs u) = s.status.ready (.rs u) := by simp) (h0 : t.rs0 = s.rs0 := by simp)
    (h1 : t.rs1 = s.rs1 := by simp) : t.ResamplersIn := by
  intro u hu
  rw [hready] at hu
  cases u with
  | rs0 => exact (congrArg Rs.InRange h0).mpr (h .rs0 hu)
  | rs1 => exact (congrArg Rs.InRange h1).mpr (h .rs1 hu)

/-- One resampler with R33 in place, constructed by RSINIT, cleared or ticked; the other one stays. -/
theorem State.ResamplersIn.setRs {s t : State} (h : s.ResamplersIn) {u : RsId} (hu : (t.rs u).InRange)
    (hother : ∀ v, v ≠ u → t.rs v = s.rs v ∧ t.status.ready (.rs v) = s.status.ready (.rs v)) : t.ResamplersIn := by
  intro v hv
  by_cases huv : v = u
  · exact huv ▸ hu
  · obtain ⟨hrs, hready⟩ := hother v huv
    exact hrs ▸ h v (hready ▸ hv)

theorem State.ResamplersIn.rsTick {s t : State} {u : RsId} (h : s.ResamplersIn) (hu : s.rsReady u = true)
    (ht : s.rsTick u = some t) : t.ResamplersIn := by
  have hrange := h u (Bool.and_eq_true_iff.1 hu).1
  have hst := State.rsTick_status ht
  cases u with
  | rs0 =>
    obtain ⟨n, r, hf, rfl⟩ := State.rsTick_rs0_effect ht
    refine h.setRs (u := .rs0) (hf.inRange hrange) fun v hv => ⟨?_, by rw [hst]⟩
    cases v with
    | rs0 => exact absurd rfl hv
    | rs1 => exact State.setEchoOut_rs1 _ _ _
  | rs1 =>
    obtain ⟨n, r, hf, rfl⟩ := State.rsTick_rs1_effect ht
    refine h.setRs (u := .rs1) (hf.inRange hrange) fun v hv => ⟨?_, by rw [hst]⟩
    cases v with
    | rs0 => exact State.setReverbOut_rs0 _ _ _
    | rs1 => exact absurd rfl hv

theorem Effect.resamplersOk {s t : State} {i : Instr} (hs : s.ResamplersOk) (h : Effect s i t) : t.ResamplersOk := by
  refine h.fatal_or (s.resamplersOk_iff.1 hs) fun hin => ?_
  cases h with
  | constructorFails _ e u => exact .inl (s.takeError_some_fatal e u)
  | wr a r => exact .inr (hin.writeReg r s.port.wdata).congr
  | rsinit u hrates =>
    refine .inr (hin.setRs (u := u) ?_ fun v hv => ?_)
    · simpa using Rs.construct_inRange hrates
    · have hne : UnitId.rs v ≠ .rs u := fun heq => hv (UnitId.rs.inj heq)
      simp [State.rs_setRs_other _ hv, Status.ready_setReady_other _ hne]
  | rsclr u hready =>
    refine .inr (hin.setRs (u := u) (by simpa using (hin u hready).clear) fun v hv => ?_)
    simp [s.rs_setRs_other hv]
  | rstick u t hready _ ht => exact .inr (hin.rsTick hready ht).congr
  | frame s1 s2 hready0 hready1 _ _ ht0 ht1 =>
    have hready1' : s1.rsReady .rs1 = true := by rwa [State.rsReady, State.rsTick_status ht0]
    exact .inr ((hin.rsTick hready0 ht0).rsTick hready1' ht1).congr
  | rstickWatchdog u => exact .inl (s.takeWatchdog_fatal u _)
  | frameWatchdog0 => exact .inl (s.takeWatchdog_fatal _ _)
  | frameWatchdog1 s1 => exact .inl (s1.takeWatchdog_fatal _ _)
  | einit => exact .inr (hin.congr (by simp [Status.ready_setReady_other]))
  | rinit => exact .inr (hin.congr (by simp [Status.ready_setReady_other]))
  | _ => exact .inr hin.congr

/-- Settles O48: RSINIT accepts only rates whose period lies in R33, RSCLR and the driving ticks keep the range. -/
theorem stepKeepsResamplerRange : Obligations.StepKeepsResamplerRange :=
  fun _ _ hs h => step_keeps (P := State.ResamplersOk) (fun _ => .inr fun u => by cases u <;> nofun)
    (fun _ _ _ _ hs => hs) (fun _ _ _ hs h => h.resamplersOk hs) hs h

/-! ## The parameter registers (R23, R26) -/

/-- The configuration and the parameter registers of R23 stand. -/
structure State.SameParameters (s t : State) : Prop where
  cfg : t.cfg = s.cfg
  xfade : t.xfade = s.xfade
  wetdry : t.wetdry = s.wetdry
  arg0 : t.arg0 = s.arg0
  arg1 : t.arg1 = s.arg1

theorem State.SameParameters.trans {s t r : State} (h : s.SameParameters t) (h' : t.SameParameters r) :
    s.SameParameters r where
  cfg := h'.cfg.trans h.cfg
  xfade := h'.xfade.trans h.xfade
  wetdry := h'.wetdry.trans h.wetdry
  arg0 := h'.arg0.trans h.arg0
  arg1 := h'.arg1.trans h.arg1

theorem State.rsTick_sameParameters {s t : State} {u : RsId} (h : s.rsTick u = some t) : s.SameParameters t := by
  cases u with
  | rs0 =>
    obtain ⟨n, r, -, rfl⟩ := State.rsTick_rs0_effect h
    constructor <;> simp
  | rs1 =>
    obtain ⟨n, r, -, rfl⟩ := State.rsTick_rs1_effect h
    constructor <;> simp

theorem State.takeWatchdog_sameParameters (s : State) (u : RsId) (f : Bool) :
    s.SameParameters (s.takeWatchdog u f) := by
  obtain ⟨hcfg, -, hxfade, hwetdry, harg0, harg1, -, -⟩ := s.takeWatchdog_rest u f
  exact ⟨hcfg, hxfade, hwetdry, harg0, harg1⟩

theorem State.writeReg_cfg (s : State) (r : Reg) (v : Word) : (s.writeReg r v).cfg = s.cfg := by
  cases r <;> rfl

/-- Only WR writes a register of R23 (and even the watchdog leaves them). -/
theorem Effect.sameParameters {s t : State} {i : Instr} (h : Effect s i t) (hwr : ∀ a, i ≠ .wr a) :
    s.SameParameters t := by
  cases h with
  | wr a => exact absurd rfl (hwr a)
  | rstick u t _ _ ht => exact (State.rsTick_sameParameters ht).trans (by constructor <;> simp)
  | frame s1 s2 _ _ _ _ ht0 ht1 =>
    exact ((State.rsTick_sameParameters ht0).trans (State.rsTick_sameParameters ht1)).trans (by constructor <;> simp)
  | rstickWatchdog u => exact s.takeWatchdog_sameParameters u _
  | frameWatchdog0 => exact s.takeWatchdog_sameParameters _ _
  | frameWatchdog1 s1 _ _ ht0 =>
    exact (State.rsTick_sameParameters ht0).trans (s1.takeWatchdog_sameParameters _ _)
  | _ => constructor <;> simp

/-- No command writes the configuration (R6). -/
theorem Effect.cfg {s t : State} {i : Instr} (h : Effect s i t) : t.cfg = s.cfg := by
  by_cases hwr : ∀ a, i ≠ .wr a
  · exact (h.sameParameters hwr).cfg
  · push Not at hwr
    obtain ⟨a, rfl⟩ := hwr
    cases h with
    | answer => rfl
    | constructorFails => simp
    | wr _ r => exact s.writeReg_cfg r _

/-- The config and modulation registers of R26 stand. -/
def Echo.SameEffectParameters (e e' : Echo) : Prop := ∀ p, e'.getCfg p = e.getCfg p ∧ e'.getMod p = e.getMod p

theorem Echo.SameSettings.effectParameters {e e' : Echo} (h : e.SameSettings e') : e.SameEffectParameters e' :=
  fun p => ⟨h.getCfg p, h.getMod p⟩

theorem Echo.construct_effectParameters (e : Echo) (rate cap : Word) :
    e.SameEffectParameters (e.construct rate cap) := fun p => by cases p <;> exact ⟨rfl, rfl⟩

theorem Echo.clear_effectParameters (e : Echo) : e.SameEffectParameters e.clear :=
  fun p => by cases p <;> exact ⟨rfl, rfl⟩

theorem Echo.eb_effectParameters (e : Echo) (eb : Ram 16) : e.SameEffectParameters { e with eb := eb } :=
  fun p => by cases p <;> exact ⟨rfl, rfl⟩

/-- A driving tick, of either resampler, leaves the echo model's settings. -/
theorem State.rsTick_echo {s t : State} {u : RsId} (h : s.rsTick u = some t) : s.echo.SameSettings t.echo := by
  cases u with
  | rs0 =>
    obtain ⟨n, r, -, rfl⟩ := State.rsTick_rs0_effect h
    exact s.echo.afterTicks_sameSettings _ _ n
  | rs1 =>
    obtain ⟨n, r, -, rfl⟩ := State.rsTick_rs1_effect h
    exact .refl _

theorem State.takeWatchdog_resp (s : State) (u : RsId) (f : Bool) : (s.takeWatchdog u f).port.resp = 7#4 := by
  simp [State.takeWatchdog, Response.code]

/-- Only WR and the watchdog write a register of R26. -/
theorem Effect.effectParameters {s t : State} {i : Instr} (h : Effect s i t) (hwr : ∀ a, i ≠ .wr a)
    (hresp : t.port.resp ≠ 7#4) : s.echo.SameEffectParameters t.echo := by
  cases h with
  | wr a => exact absurd rfl (hwr a)
  | ebwr idx v => exact s.echo.eb_effectParameters _
  | einit => exact s.echo.construct_effectParameters _ _
  | eclr => exact s.echo.clear_effectParameters
  | etick e l r _ _ htick =>
    have hkept := s.echo.tick_sameSettings s.samples.r0 s.samples.r1
    rw [htick] at hkept
    exact hkept.effectParameters
  | rstick u t _ _ ht => exact (State.rsTick_echo ht).effectParameters
  | frame s1 s2 _ _ _ _ ht0 ht1 =>
    have hkept := (State.rsTick_echo ht0).trans (State.rsTick_echo ht1)
    simpa using hkept.effectParameters
  | rstickWatchdog u => exact absurd (s.takeWatchdog_resp u _) hresp
  | frameWatchdog0 => exact absurd (s.takeWatchdog_resp _ _) hresp
  | frameWatchdog1 s1 => exact absurd (s1.takeWatchdog_resp _ _) hresp
  | _ => simpa using (Echo.SameSettings.refl s.echo).effectParameters

/-- Settles O52, by what each command can do. -/
theorem onlyWrWritesParameters : Obligations.OnlyWrWritesParameters := by
  intro i s t h
  have heffect := exec_effect h
  refine ⟨heffect.cfg, fun hwr => ?_⟩
  have hsame := heffect.sameParameters hwr
  exact ⟨hsame.xfade, hsame.wetdry, hsame.arg0, hsame.arg1, fun hresp => heffect.effectParameters hwr hresp⟩

/-! ## The word of STATUS (R25) -/

/-- STATUS from bit 0 up: the READY bits, three bits that are 0, FATAL, and FCODE above them. -/
def Status.bits (st : Status) : Nat :=
  .bit st.eReady <| .bit st.rReady <| .bit st.rs0Ready <| .bit st.rs1Ready <|
    .bit false <| .bit false <| .bit false <| .bit st.fatal st.fcode.toNat

theorem bitNat_eq_toNat (b : Bool) : bitNat b = b.toNat := by cases b <;> rfl

theorem Status.word_eq_bits (st : Status) : st.word = BitVec.ofNat 32 st.bits := by
  unfold Status.word Status.bits
  simp only [Nat.bit_val, bitNat_eq_toNat, Bool.toNat_false]
  congr 1
  omega

theorem Status.getLsbD_word (st : Status) {k : Nat} (hk : k < 32) : st.word.getLsbD k = st.bits.testBit k := by
  rw [st.word_eq_bits, BitVec.getLsbD_ofNat, decide_eq_true hk, Bool.true_and]

theorem Status.testBit_bits_low (st : Status) :
    st.bits.testBit 0 = st.eReady ∧ st.bits.testBit 1 = st.rReady ∧ st.bits.testBit 2 = st.rs0Ready ∧
    st.bits.testBit 3 = st.rs1Ready ∧ st.bits.testBit 4 = false ∧ st.bits.testBit 5 = false ∧
    st.bits.testBit 6 = false ∧ st.bits.testBit 7 = st.fatal := by
  simp only [Status.bits, Nat.testBit_bit_succ, Nat.testBit_bit_zero, and_self]

/-- FCODE starts at bit 8. -/
theorem Status.testBit_bits_fcode (st : Status) (k : Nat) : st.bits.testBit (8 + k) = st.fcode.getLsbD k := by
  rw [Nat.add_comm]
  simp only [Status.bits, Nat.testBit_bit_succ]
  rfl

/-- Settles O12: each bit of the word, below and above bit 8. -/
theorem statusReadsAsLaidOut : Obligations.StatusReadsAsLaidOut := by
  intro s
  have hbit {k : Nat} (hk : k < 32) : (s.readReg .status).getLsbD k = s.status.bits.testBit k :=
    s.status.getLsbD_word hk
  obtain ⟨h0, h1, h2, h3, h4, h5, h6, h7⟩ := s.status.testBit_bits_low
  refine ⟨(hbit (by omega)).trans h0, (hbit (by omega)).trans h1, (hbit (by omega)).trans h2,
    (hbit (by omega)).trans h3, (hbit (by omega)).trans h7,
    fun k hk => (hbit (by omega)).trans (s.status.testBit_bits_fcode k), ?_⟩
  rintro k (rfl | rfl | rfl | hk)
  · exact (hbit (by omega)).trans h4
  · exact (hbit (by omega)).trans h5
  · exact (hbit (by omega)).trans h6
  · rcases Nat.lt_or_ge k 32 with hk' | hk'
    · obtain ⟨j, rfl⟩ := Nat.exists_eq_add_of_le (show 8 ≤ k by omega)
      rw [hbit hk', s.status.testBit_bits_fcode]
      exact BitVec.getLsbD_of_ge _ _ (by omega)
    · exact BitVec.getLsbD_of_ge _ _ hk'

/-! ## The register map (R36) -/

/-- The register numbers in the order of R36, as runs. -/
theorem Reg.numbers_eq_runs :
    Reg.all.map Reg.number = List.range' 0 0x0C ++ List.range' 0x10 0x16 ++ List.range' 0x28 4 ++
      List.range' 0x30 8 ++ List.range' 0x40 5 ++ List.range' 0x48 10 ++ List.range' 0x58 22 ++
      List.range' 0x70 17 := by decide

theorem Reg.isSome_ofNumber_iff (a : Nat) : (Reg.ofNumber a).isSome = true ↔ a ∈ Reg.all.map Reg.number := by
  rw [Option.isSome_iff_exists, List.mem_map]
  constructor
  · rintro ⟨r, hr⟩
    exact ⟨r, r.mem_all, Reg.number_of_ofNumber hr⟩
  · rintro ⟨r, -, rfl⟩
    exact ⟨r, r.ofNumber_number⟩

theorem Reg.writable_iff_number (r : Reg) :
    r.writable = true ↔ r.number ≤ 0x0B ∨ (0x10 ≤ r.number ∧ r.number ≤ 0x1F) := by
  have hall : ∀ q ∈ Reg.all, (q.writable = true ↔ q.number ≤ 0x0B ∨ (0x10 ≤ q.number ∧ q.number ≤ 0x1F)) := by decide
  exact hall r r.mem_all

/-- Settles O9: the numbers are runs, and a number and its register determine each other. -/
theorem registerMapIsAsListed : Obligations.RegisterMapIsAsListed := by
  refine ⟨by decide, by decide +kernel, fun a => ?_, fun a r hr => ?_⟩
  · rw [Reg.isSome_ofNumber_iff, Reg.numbers_eq_runs]
    simp only [List.mem_append, List.mem_range'_1]
    omega
  · rw [← Reg.number_of_ofNumber hr]
    exact r.writable_iff_number

/-! ## The reset state (R37) -/

/-- Settles O7, register by register. -/
theorem resetRegistersHoldSpecValues : Obligations.ResetRegistersHoldSpecValues := by
  refine ⟨fun r => ?_, fun u => ?_, rfl⟩
  · have hall : ∀ q ∈ Reg.all, State.reset.readReg q = if q = .firc 0 then 0x0000007F#32 else 0x00000000#32 := by
      decide
    exact hall r r.mem_all
  · rcases u with _ | _ | (_ | _) <;> rfl

/-- Settles O50: nothing is written, nothing is constructed, FATAL = 0. -/
theorem resetSatisfiesInvariants : Obligations.ResetSatisfiesInvariants :=
  ⟨⟨Ram.wf_unspecified 0, Ram.within_unspecified 0 _, Ram.wf_unspecified 0, Ram.within_unspecified 0 _⟩,
    .inr ⟨nofun, nofun⟩, .inr fun u => by cases u <;> nofun, fun _ => rfl, nofun⟩

end Sys2Proof.Machine

/-!
PROOFS. The statements of the memory (20_memory): the host's reads and writes of the two RAMs, the operands that name
nothing, the canonical form that every step keeps, and where a step stops. A RAM is changed by writes, by fills and by
becoming unspecified; each index written and each bound filled to was checked against the RAM, and a native tick keeps
the bounds that the next one relies on.
-/

namespace Sys2Proof.Machine

/-! ## Reads (R218, R219, R221) -/

/-- What `exec` gives for a command that only answers. -/
theorem answers_of_respond {i : Instr} {s : State} {r : Response} {v : Word} (h : exec i s = .next (s.respond r v)) :
    ∃ t, exec i s = .next t ∧ t.Answered r v ∧ OnlyAnswers s t :=
  ⟨_, h, ⟨rfl, rfl⟩, rfl⟩

theorem exec_rd_some {s : State} {a : Nat} {r : Reg} (h : Reg.ofNumber a = some r) :
    exec (.rd a) s = .next (s.respond .ok (s.readReg r)) := by
  show execRd a s = _
  rw [execRd, h]

theorem exec_ebrd_inside {s : State} {idx : Nat} (h : idx < s.cfg.ebWords) :
    exec (.ebrd idx) s = .next (s.respond .ok ((s.readEb idx).signExtend 32)) := by
  show execEbrd idx s = _
  rw [execEbrd, decide_eq_true h, check_true]
  rfl

theorem exec_wsrd_inside {s : State} {idx : Nat} (h : idx < s.cfg.wsWords) :
    exec (.wsrd idx) s = .next (s.respond .ok (s.readWs idx)) := by
  show execWsrd idx s = _
  rw [execWsrd, decide_eq_true h, check_true]
  rfl

/-- Settles O11: past its one check each read only answers. -/
theorem readsAnswerAndChangeNothing : Obligations.ReadsAnswerAndChangeNothing :=
  ⟨fun _ _ _ h => answers_of_respond (exec_rd_some h), fun _ _ h => answers_of_respond (exec_ebrd_inside h),
    fun _ _ h => answers_of_respond (exec_wsrd_inside h)⟩

/-! ## Operands that name nothing (V2, V4, V5) -/

theorem exec_rd_none {s : State} {a : Nat} (h : Reg.ofNumber a = none) :
    exec (.rd a) s = .next (s.respond .range 0#32) := by
  show execRd a s = _
  rw [execRd, h]
  rfl

/-- A check that an index at or beyond the size of its RAM does not pass. -/
theorem check_index_outside {s : State} {k : Result} {words idx : Nat} (h : words ≤ idx) :
    check (decide (idx < words)) .range s k = .next (s.respond .range 0#32) := by
  rw [decide_eq_false h.not_gt, check_false, State.takeError_none]

theorem exec_ebrd_outside {s : State} {idx : Nat} (h : s.cfg.ebWords ≤ idx) :
    exec (.ebrd idx) s = .next (s.respond .range 0#32) :=
  check_index_outside h

theorem exec_wsrd_outside {s : State} {idx : Nat} (h : s.cfg.wsWords ≤ idx) :
    exec (.wsrd idx) s = .next (s.respond .range 0#32) :=
  check_index_outside h

theorem exec_ebwr_outside {s : State} {idx : Nat} (hlive : s.status.fatal = false) (h : s.cfg.ebWords ≤ idx) :
    exec (.ebwr idx) s = .next (s.respond .range 0#32) :=
  (checkLive_of_live hlive).trans (check_index_outside h)

theorem exec_wswr_outside {s : State} {idx : Nat} (hlive : s.status.fatal = false) (h : s.cfg.wsWords ≤ idx) :
    exec (.wswr idx) s = .next (s.respond .range 0#32) :=
  (checkLive_of_live hlive).trans (check_index_outside h)

theorem exec_rinit_outside {s : State} {p : Nat} (hlive : s.status.fatal = false) (h : s.cfg.presets.length ≤ p) :
    exec (.rinit p) s = .next (s.respond .range 0#32) := by
  show execRinit p s = _
  rw [execRinit, checkLive_of_live hlive, List.getElem?_eq_none h]
  rfl

/-- Settles O16, operand kind by operand kind. -/
theorem operandsThatNameNothingAnswerRange : Obligations.OperandsThatNameNothingAnswerRange :=
  ⟨fun _ _ h => answers_of_respond (exec_rd_none h),
    fun _ _ h => answers_of_respond (exec_ebrd_outside h),
    fun _ _ h => answers_of_respond (exec_wsrd_outside h),
    fun _ _ hlive h => answers_of_respond (exec_ebwr_outside hlive h),
    fun _ _ hlive h => answers_of_respond (exec_wswr_outside hlive h),
    fun _ _ hlive h => answers_of_respond (exec_rinit_outside hlive h)⟩

/-! ## Writes (R220, R222) -/

/-- No register lies in EB. -/
theorem State.readReg_withEb (s : State) (m : Ram 16) (a : Reg) :
    { s with echo := { s.echo with eb := m } }.readReg a = s.readReg a := by
  cases a with
  | ecfg p | emod p | eeff p => cases p <;> rfl
  | rs u k => cases u <;> rfl
  | _ => rfl

/-- No register lies in WS. -/
theorem State.readReg_withWs (s : State) (m : Ram 32) (a : Reg) :
    { s with reverb := { s.reverb with ws := m } }.readReg a = s.readReg a := by
  cases a with
  | rs u k => cases u <;> rfl
  | _ => rfl

theorem exec_ebwr_inside {s : State} {idx : Nat} (hlive : s.status.fatal = false) (h : idx < s.cfg.ebWords) :
    exec (.ebwr idx) s = .next { s with
      echo := { s.echo with eb := s.echo.eb.write idx (s.port.wdata.setWidth 16) } }.respondOk := by
  show execEbwr idx s = _
  rw [execEbwr, checkLive_of_live hlive, decide_eq_true h, check_true]

theorem exec_wswr_inside {s : State} {idx : Nat} (hlive : s.status.fatal = false) (h : idx < s.cfg.wsWords) :
    exec (.wswr idx) s = .next { s with
      reverb := { s.reverb with ws := s.reverb.ws.write idx s.port.wdata } }.respondOk := by
  show execWswr idx s = _
  rw [execWswr, checkLive_of_live hlive, decide_eq_true h, check_true]

theorem frame_write_eb (s : State) (idx : Nat) (v : Half) :
    Frame s { s with echo := { s.echo with eb := s.echo.eb.write idx v } } nothing (· = idx) nothing :=
  ⟨fun a _ => s.readReg_withEb _ a, fun _ hi => s.echo.eb.read_write_other hi v, fun _ _ => rfl,
    rfl, rfl, rfl, rfl, rfl⟩

theorem frame_write_ws (s : State) (idx : Nat) (v : Word) :
    Frame s { s with reverb := { s.reverb with ws := s.reverb.ws.write idx v } } nothing nothing (· = idx) :=
  ⟨fun a _ => s.readReg_withWs _ a, fun _ _ => rfl, fun _ hi => s.reverb.ws.read_write_other hi v,
    rfl, rfl, rfl, rfl, rfl⟩

/-- Settles O15, by what a RAM write does to its own and to every other word. -/
theorem ramWritesStoreOneWord : Obligations.RamWritesStoreOneWord :=
  ⟨fun s _ hlive h => ⟨_, exec_ebwr_inside hlive h, State.answered_respondOk _, s.echo.eb.read_write_same _ _,
      (frame_write_eb s _ _).respondOk⟩,
    fun s _ hlive h => ⟨_, exec_wswr_inside hlive h, State.answered_respondOk _, s.reverb.ws.read_write_same _ _,
      (frame_write_ws s _ _).respondOk⟩⟩

/-! ## The canonical form of the RAMs (R52, R53) -/

/-- The RAM is in canonical form and holds no word at or beyond `words`. -/
def Ram.Ok {w : Nat} (m : Ram w) (words : Nat) : Prop := m.wf = true ∧ m.within words = true

section RamOk

variable {w words : Nat} {m : Ram w}

theorem Ram.Ok.write (h : m.Ok words) {i : Nat} (hi : i < words) (v : BitVec w) : (m.write i v).Ok words :=
  ⟨Ram.wf_write h.1 i v, Ram.within_write h.2 hi v⟩

theorem Ram.Ok.fill (h : m.Ok words) {n : Nat} (hn : n ≤ words) (v : BitVec w) : (m.fill n v).Ok words :=
  ⟨Ram.wf_fill h.1 n v, Ram.within_fill h.2 hn v⟩

theorem Ram.ok_unspecified (seed words : Nat) : (Ram.unspecified seed : Ram w).Ok words :=
  ⟨Ram.wf_unspecified seed, Ram.within_unspecified seed words⟩

end RamOk

theorem State.memoryOk_iff (s : State) :
    s.MemoryOk ↔ s.echo.eb.Ok s.cfg.ebWords ∧ s.reverb.ws.Ok s.cfg.wsWords :=
  and_assoc.symm

/-! ### Native ticks write inside their RAM (R149, R179) -/

/-- What a native echo tick relies on for its one write, and keeps: ring and capacity lie in EB. -/
structure Echo.TicksInside (e : Echo) (words : Nat) : Prop where
  len_pos : 1 ≤ e.len.toNat
  len_le : e.len.toNat ≤ words
  cap_pos : 1 ≤ e.cap.toNat
  cap_le : e.cap.toNat ≤ words
  eb : e.eb.Ok words

/-- The write index lies below the old length; the new length is the old one or a candidate, which is at most the
capacity. -/
theorem Echo.TicksInside.tick {e : Echo} {words : Nat} (h : e.TicksInside words) (inL inR : F) :
    (e.tick inL inR).1.TicksInside words := by
  have ⟨hlen, hlen', hcap, hcap', heb⟩ := h
  have hidx : e.nextIndex < e.len.toNat := Nat.mod_lt _ hlen
  have hnext : 1 ≤ e.nextLen ∧ e.nextLen ≤ words ∧ e.nextLen < 2 ^ 32 := by
    obtain ⟨hcand, hcand'⟩ := e.candidate_bounds hcap
    have := e.len.isLt
    have := e.cap.isLt
    unfold Echo.nextLen
    split <;> omega
  obtain ⟨hpos, hle, hlt⟩ := hnext
  have tick_len : (e.tick inL inR).1.len.toNat = e.nextLen := Nat.mod_eq_of_lt hlt
  exact ⟨tick_len ▸ hpos, tick_len ▸ hle, hcap, hcap', heb.write (hidx.trans_le hlen') _⟩

theorem Echo.TicksInside.afterTicks {e : Echo} {words : Nat} (h : e.TicksInside words) (inL inR : F) :
    ∀ n, (e.afterTicks inL inR n).TicksInside words
  | 0 => h
  | n + 1 => e.afterTicks_succ inL inR n ▸ (h.afterTicks inL inR n).tick inL inR

/-- What a native reverb tick relies on for its writes, and keeps: the ring lies in WS. -/
structure Reverb.TicksInside (v : Reverb) (words : Nat) : Prop where
  ring_pos : 1 ≤ v.ring.toNat
  ring_le : v.ring.toNat ≤ words
  ws : v.ws.Ok words

section ReverbTicksInside

variable {v : Reverb} {words : Nat}

theorem ringIndex_lt (i : Int) {len : Nat} (h : 1 ≤ len) : ringIndex i len < len := by
  have := Int.emod_lt_of_pos i (show (0 : Int) < len by omega)
  unfold ringIndex
  omega

/-- Every write of the network goes through the cursor, and so into the ring (R178). -/
theorem Reverb.TicksInside.wset (h : v.TicksInside words) {a : Int} {x : F} : (v.wset a x).TicksInside words :=
  ⟨h.ring_pos, h.ring_le, h.ws.write ((ringIndex_lt _ h.ring_pos).trans_le h.ring_le) x⟩

theorem Reverb.TicksInside.reflect (h : v.TicksInside words) {x : F} {d m : Word} :
    (v.reflect x d m).TicksInside words :=
  h.wset

theorem Reverb.TicksInside.apf (h : v.TicksInside words) {x g : F} {m d : Word} :
    (v.apf x m d g).1.TicksInside words :=
  h.wset

theorem Reverb.TicksInside.advance (h : v.TicksInside words) : v.advance.TicksInside words :=
  ⟨h.ring_pos, h.ring_le, h.ws⟩

/-- The stages of R181 in their order, and the cursor's advance. -/
theorem Reverb.TicksInside.tick (h : v.TicksInside words) (inL inR : F) : (v.tick inL inR).1.TicksInside words := by
  simp only [Reverb.tick]
  exact h.reflect.reflect.apf.apf.apf.apf.reflect.reflect.advance

theorem Reverb.TicksInside.afterTicks (h : v.TicksInside words) (inL inR : F) :
    ∀ n, (v.afterTicks inL inR n).TicksInside words
  | 0 => h
  | n + 1 => v.afterTicks_succ inL inR n ▸ (h.afterTicks inL inR n).tick inL inR

end ReverbTicksInside

theorem State.echoRingOk_iff (s : State) :
    s.echoRingOk = true ↔ 1 ≤ s.echo.len.toNat ∧ s.echo.len.toNat ≤ s.cfg.ebWords ∧
      1 ≤ s.echo.cap.toNat ∧ s.echo.cap.toNat ≤ s.cfg.ebWords := by
  simp only [State.echoRingOk, Bool.and_eq_true, decide_eq_true_eq, and_assoc]

theorem State.reverbRingOk_iff (s : State) :
    s.reverbRingOk = true ↔ 1 ≤ s.reverb.ring.toNat ∧ s.reverb.ring.toNat ≤ s.cfg.wsWords := by
  simp only [State.reverbRingOk, Bool.and_eq_true, decide_eq_true_eq]

/-! ### What each command makes of the two RAMs -/

section MemoryOk

variable {s t : State} {u : RsId}

theorem State.MemoryOk.echo_ticksInside (h : s.MemoryOk) (hring : s.echoRingOk = true) :
    s.echo.TicksInside s.cfg.ebWords := by
  obtain ⟨hlen, hlen', hcap, hcap'⟩ := s.echoRingOk_iff.1 hring
  exact ⟨hlen, hlen', hcap, hcap', (s.memoryOk_iff.1 h).1⟩

theorem State.MemoryOk.reverb_ticksInside (h : s.MemoryOk) (hring : s.reverbRingOk = true) :
    s.reverb.TicksInside s.cfg.wsWords := by
  obtain ⟨hpos, hle⟩ := s.reverbRingOk_iff.1 hring
  exact ⟨hpos, hle, (s.memoryOk_iff.1 h).2⟩

/-- The two RAMs and their sizes are all that is read. -/
theorem State.MemoryOk.congr (h : s.MemoryOk) (hcfg : t.cfg = s.cfg := by simp)
    (hecho : t.echo = s.echo := by simp) (hreverb : t.reverb = s.reverb := by simp) : t.MemoryOk := by
  unfold State.MemoryOk
  rwa [hcfg, hecho, hreverb]

/-- A new echo model whose EB is in order. -/
theorem State.MemoryOk.setEcho (h : s.MemoryOk) (heb : t.echo.eb.Ok s.cfg.ebWords)
    (hcfg : t.cfg = s.cfg := by simp) (hreverb : t.reverb = s.reverb := by simp) : t.MemoryOk := by
  rw [t.memoryOk_iff, hcfg, hreverb]
  exact ⟨heb, (s.memoryOk_iff.1 h).2⟩

/-- A new reverb model whose WS is in order. -/
theorem State.MemoryOk.setReverb (h : s.MemoryOk) (hws : t.reverb.ws.Ok s.cfg.wsWords)
    (hcfg : t.cfg = s.cfg := by simp) (hecho : t.echo = s.echo := by simp) : t.MemoryOk := by
  rw [t.memoryOk_iff, hcfg, hecho]
  exact ⟨(s.memoryOk_iff.1 h).1, hws⟩

/-- WR reaches neither RAM. -/
theorem State.MemoryOk.writeReg (h : s.MemoryOk) (r : Reg) (v : Word) : (s.writeReg r v).MemoryOk := by
  cases r with
  | ecfg p => cases p <;> exact h
  | emod p => cases p <;> exact h
  | _ => exact h

theorem State.MemoryOk.rsTick (h : s.MemoryOk) (hring : s.modelRingOk u = true) (ht : s.rsTick u = some t) :
    t.MemoryOk := by
  cases u with
  | rs0 =>
    obtain ⟨n, r, -, rfl⟩ := State.rsTick_rs0_effect ht
    exact h.setEcho ((h.echo_ticksInside hring).afterTicks _ _ n).eb
  | rs1 =>
    obtain ⟨n, r, -, rfl⟩ := State.rsTick_rs1_effect ht
    exact h.setReverb ((h.reverb_ticksInside hring).afterTicks _ _ n).ws

/-- Resampler 0 leaves the reverb model, and so its ring. -/
theorem State.rsTick_rs0_reverbRingOk (ht : s.rsTick .rs0 = some t) : t.reverbRingOk = s.reverbRingOk := by
  obtain ⟨n, r, -, rfl⟩ := State.rsTick_rs0_effect ht
  rfl

/-- A watchdog leaves one RAM unspecified and the other one alone (U5). -/
theorem State.MemoryOk.takeWatchdog (h : s.MemoryOk) (u : RsId) (f : Bool) : (s.takeWatchdog u f).MemoryOk := by
  obtain ⟨heb, hws⟩ := s.memoryOk_iff.1 h
  refine (State.memoryOk_iff _).2 ?_
  cases u with
  | rs0 => cases f <;> exact ⟨Ram.ok_unspecified _ _, hws⟩
  | rs1 => cases f <;> exact ⟨heb, Ram.ok_unspecified _ _⟩

theorem State.hardReset_memoryOk (s : State) : s.hardReset.MemoryOk :=
  s.hardReset.memoryOk_iff.2 ⟨Ram.ok_unspecified _ _, Ram.ok_unspecified _ _⟩

/-- A FRAME that the watchdog ended had passed the check of the echo ring. -/
theorem echoRingOk_of_frame_watchdog (h : exec .frame s = .next t) (hresp : t.port.resp = 7#4) :
    s.echoRingOk = true := by
  obtain ⟨-, rfl⟩ | ⟨-, h⟩ := checkLive_next h
  · simp [Response.code] at hresp
  obtain ⟨-, rfl⟩ | ⟨-, h⟩ := check_next h
  · simp [Response.code] at hresp
  exact (requireRam_next h).1

theorem exec_keeps_memoryOk {i : Instr} (hs : s.MemoryOk) (h : exec i s = .next t) : t.MemoryOk := by
  have ⟨heb, hws⟩ := s.memoryOk_iff.1 hs
  cases exec_effect h with
  | wr a r => exact (hs.writeReg r s.port.wdata).congr
  | ebwr idx v hidx => exact hs.setEcho (heb.write hidx v)
  | wswr idx v hidx => exact hs.setReverb (hws.write hidx v)
  | einit _ hwords => exact hs.setEcho (heb.fill hwords _)
  | rinit _ _ hwords => exact hs.setReverb (hws.fill hwords _)
  | eclr hcap => exact hs.setEcho (heb.fill hcap _)
  | rclr hcap => exact hs.setReverb (hws.fill hcap _)
  | etick e l r _ hring htick =>
    have hnew := (hs.echo_ticksInside hring).tick s.samples.r0 s.samples.r1
    rw [htick] at hnew
    exact hs.setEcho hnew.eb
  | rtick v l r _ hring htick =>
    have hnew := (hs.reverb_ticksInside hring).tick s.samples.r0 s.samples.r1
    rw [htick] at hnew
    exact hs.setReverb hnew.ws
  | rstick u t _ hring ht => exact (hs.rsTick hring ht).congr
  | frame s1 s2 _ _ hring0 hring1 ht0 ht1 =>
    have hring1' : s1.reverbRingOk = true := (State.rsTick_rs0_reverbRingOk ht0).trans hring1
    exact ((hs.rsTick (u := .rs0) hring0 ht0).rsTick (u := .rs1) hring1' ht1).congr
  | rstickWatchdog u => exact hs.takeWatchdog u _
  | frameWatchdog0 => exact hs.takeWatchdog _ _
  | frameWatchdog1 s1 _ _ ht0 =>
    have hring0 := echoRingOk_of_frame_watchdog h (s1.takeWatchdog_resp _ _)
    exact (hs.rsTick (u := .rs0) hring0 ht0).takeWatchdog _ _
  | _ => exact hs.congr

/-- Settles O46: every write and fill was checked against its RAM, native ticks write into rings inside their RAM, and
a reset or a watchdog leaves a RAM with no word written. -/
theorem stepKeepsMemoryCanonical : Obligations.StepKeepsMemoryCanonical := by
  intro s t hs h
  obtain ⟨-, rfl⟩ | ⟨rest, -, rfl⟩ | ⟨rest, c, w, -, -, rfl⟩ | ⟨rest, c, w, i, -, -, h⟩ := step_cases h
  · exact hs
  · exact State.hardReset_memoryOk _
  · exact hs.congr
  · exact exec_keeps_memoryOk (s := s.present rest c w) hs h

end MemoryOk

/-! ## Where a step stops (R66, R149, R179; log 7) -/

/-- The meaning answers a next state. -/
def Completes (k : Result) : Prop := ∃ t, k = .next t

section Completes

variable {s : State} {k : Result} {u : RsId}

theorem completes_next (t : State) : Completes (.next t) := ⟨t, rfl⟩

theorem Completes.check {ok : Bool} {e : Response} (hk : ok = true → Completes k) : Completes (check ok e s k) := by
  cases ok with
  | false => exact completes_next _
  | true => exact hk rfl

theorem Completes.checkFatal {ok : Bool} {e : Response} {u : UnitId} (hk : Completes k) :
    Completes (checkFatal ok e u s k) := by
  cases ok with
  | false => exact completes_next _
  | true => exact hk

theorem Completes.checkLive (hk : s.status.fatal = false → Completes k) : Completes (checkLive s k) :=
  .check fun hlive => hk (Bool.not_eq_true' _ ▸ hlive)

theorem Completes.requireRam {ok : Bool} {f : Fault} (hok : ok = true) (hk : Completes k) :
    Completes (requireRam ok f k) :=
  hok ▸ hk

theorem State.RingsOk.of_live (h : s.RingsOk) (hlive : s.status.fatal = false) : s.RingsIn :=
  (s.ringsOk_iff.1 h).resolve_left (by simp [hlive])

theorem State.RingsIn.echoRingOk (h : s.RingsIn) (hready : s.status.eReady = true) : s.echoRingOk = true := by
  obtain ⟨hlen, hcap, hwords, -, -⟩ := h.1 hready
  exact s.echoRingOk_iff.2 ⟨hlen, hcap.trans hwords, hlen.trans hcap, hwords⟩

theorem State.RingsIn.reverbRingOk (h : s.RingsIn) (hready : s.status.rReady = true) : s.reverbRingOk = true := by
  obtain ⟨-, hcap, hwords, hcur, -⟩ := h.2 hready
  exact s.reverbRingOk_iff.2 ⟨(Nat.zero_le _).trans_lt hcur, hcap.trans hwords⟩

theorem State.RingsIn.modelRingOk (h : s.RingsIn) (hready : s.rsReady u = true) : s.modelRingOk u = true := by
  have hmodel := (Bool.and_eq_true_iff.1 hready).2
  cases u with
  | rs0 => exact h.echoRingOk hmodel
  | rs1 => exact h.reverbRingOk hmodel

/-- Where the rings are in place every RAM requirement holds, and every other check that fails is answered. -/
theorem exec_completes (h : s.RingsOk) (i : Instr) : Completes (exec i s) := by
  cases i with
  | nop => exact completes_next _
  | wr a =>
    refine .checkLive fun _ => ?_
    cases Reg.ofNumber a with
    | none => exact completes_next _
    | some r => exact .check fun _ => completes_next _
  | rd a =>
    show Completes (execRd a s)
    unfold execRd
    cases Reg.ofNumber a with
    | none => exact completes_next _
    | some r => exact completes_next _
  | ebrd idx => exact .check fun _ => completes_next _
  | wsrd idx => exact .check fun _ => completes_next _
  | ebwr idx => exact .checkLive fun _ => .check fun _ => completes_next _
  | wswr idx => exact .checkLive fun _ => .check fun _ => completes_next _
  | einit => exact .checkLive fun _ => .checkFatal (.checkFatal (completes_next _))
  | rinit p =>
    refine .checkLive fun _ => ?_
    cases s.cfg.presets[p]? with
    | none => exact completes_next _
    | some preset => exact .checkFatal (.checkFatal (completes_next _))
  | rsinit u => exact .checkLive fun _ => .checkFatal (completes_next _)
  | rsclr u => exact .checkLive fun _ => .check fun _ => completes_next _
  | mix => exact .checkLive fun _ => completes_next _
  | eclr =>
    refine .checkLive fun hlive => .check fun hready => .requireRam (decide_eq_true ?_) (completes_next _)
    obtain ⟨-, -, hwords, -, -⟩ := (h.of_live hlive).1 hready
    exact hwords
  | rclr =>
    refine .checkLive fun hlive => .check fun hready => .requireRam (decide_eq_true ?_) (completes_next _)
    obtain ⟨-, -, hwords, -, -⟩ := (h.of_live hlive).2 hready
    exact hwords
  | etick =>
    exact .checkLive fun hlive => .check fun hready =>
      .requireRam ((h.of_live hlive).echoRingOk hready) (completes_next _)
  | rtick =>
    exact .checkLive fun hlive => .check fun hready =>
      .requireRam ((h.of_live hlive).reverbRingOk hready) (completes_next _)
  | rstick u =>
    refine .checkLive fun hlive => .check fun hready => .requireRam ((h.of_live hlive).modelRingOk hready) ?_
    cases s.rsTick u with
    | none => exact completes_next _
    | some t => exact completes_next _
  | frame =>
    refine .checkLive fun hlive => .check fun hready => ?_
    simp only [Bool.and_eq_true] at hready
    obtain ⟨⟨⟨he, hr⟩, -⟩, -⟩ := hready
    refine .requireRam ((h.of_live hlive).echoRingOk he) (.requireRam ((h.of_live hlive).reverbRingOk hr) ?_)
    cases s.rsTick .rs0 with
    | none => exact completes_next _
    | some s1 =>
      dsimp only
      cases s1.rsTick .rs1 with
      | none => exact completes_next _
      | some s2 => exact completes_next _

theorem step_completes (h : s.RingsOk) : Completes (step s) := by
  unfold step
  match hp : s.pending with
  | [] =>
    rw [State.fetch_idle hp]
    exact completes_next _
  | .reset :: rest =>
    rw [State.fetch_reset hp]
    exact completes_next _
  | .transaction c w :: rest =>
    cases hd : decode c with
    | none =>
      rw [State.fetch_illegal hp hd]
      exact completes_next _
    | some i =>
      rw [State.fetch_command hp hd]
      exact exec_completes (s := s.present rest c w) h i

end Completes

/-! ### The named faults -/

section Faults

variable {s : State} {u : RsId}

theorem exec_etick_fault (hlive : s.status.fatal = false) (hready : s.status.eReady = true)
    (hring : s.echoRingOk = false) : exec .etick s = .fault .ebIndex := by
  show execEtick s = _
  rw [execEtick, checkLive_of_live hlive, hready, check_true, hring, requireRam_false]

theorem exec_eclr_fault (hlive : s.status.fatal = false) (hready : s.status.eReady = true)
    (hcap : s.cfg.ebWords < s.echo.cap.toNat) : exec .eclr s = .fault .ebIndex := by
  show execEclr s = _
  rw [execEclr, checkLive_of_live hlive, hready, check_true, decide_eq_false hcap.not_ge, requireRam_false]

theorem exec_rtick_fault (hlive : s.status.fatal = false) (hready : s.status.rReady = true)
    (hring : s.reverbRingOk = false) : exec .rtick s = .fault .wsIndex := by
  show execRtick s = _
  rw [execRtick, checkLive_of_live hlive, hready, check_true, hring, requireRam_false]

theorem exec_rclr_fault (hlive : s.status.fatal = false) (hready : s.status.rReady = true)
    (hcap : s.cfg.wsWords < s.reverb.cap.toNat) : exec .rclr s = .fault .wsIndex := by
  show execRclr s = _
  rw [execRclr, checkLive_of_live hlive, hready, check_true, decide_eq_false hcap.not_ge, requireRam_false]

theorem exec_rstick_fault (hlive : s.status.fatal = false) (hready : s.rsReady u = true)
    (hring : s.modelRingOk u = false) : exec (.rstick u) s = .fault (modelFault u) := by
  show execRstick u s = _
  rw [execRstick, checkLive_of_live hlive, hready, check_true, hring, requireRam_false]

/-- FRAME's admission check is the ones of both resamplers together (R205). -/
theorem frame_ready (h0 : s.rsReady .rs0 = true) (h1 : s.rsReady .rs1 = true) :
    (s.status.eReady && s.status.rReady && s.status.rs0Ready && s.status.rs1Ready) = true := by
  obtain ⟨hrs0, he⟩ : s.status.rs0Ready = true ∧ s.status.eReady = true := Bool.and_eq_true_iff.1 h0
  obtain ⟨hrs1, hr⟩ : s.status.rs1Ready = true ∧ s.status.rReady = true := Bool.and_eq_true_iff.1 h1
  rw [he, hr, hrs0, hrs1]
  rfl

theorem exec_frame_fault_echo (hlive : s.status.fatal = false) (h0 : s.rsReady .rs0 = true)
    (h1 : s.rsReady .rs1 = true) (hring : s.echoRingOk = false) : exec .frame s = .fault .ebIndex := by
  show execFrame s = _
  rw [execFrame, checkLive_of_live hlive, frame_ready h0 h1, check_true, hring, requireRam_false]

theorem exec_frame_fault_reverb (hlive : s.status.fatal = false) (h0 : s.rsReady .rs0 = true)
    (h1 : s.rsReady .rs1 = true) (hecho : s.echoRingOk = true) (hring : s.reverbRingOk = false) :
    exec .frame s = .fault .wsIndex := by
  show execFrame s = _
  rw [execFrame, checkLive_of_live hlive, frame_ready h0 h1, check_true, hecho, requireRam_true, hring,
    requireRam_false]

end Faults

/-- Settles O51: R28, R30 and R32 give what every RAM requirement asks; one that is not met stops the command. -/
theorem onlyBrokenRingsStop : Obligations.OnlyBrokenRingsStop :=
  ⟨fun _ h => step_completes h, fun _ hlive =>
    ⟨exec_etick_fault hlive, exec_eclr_fault hlive, exec_rtick_fault hlive, exec_rclr_fault hlive,
      fun _ => exec_rstick_fault hlive,
      fun h0 h1 => ⟨exec_frame_fault_echo hlive h0 h1, exec_frame_fault_reverb hlive h0 h1⟩⟩⟩

end Sys2Proof.Machine

/-!
PROOFS. The statements of the encoding (30_encoding). Bits 31:24 and 23:0 of a word fix its command: the decoder gives
`i` exactly when they are the opcode and the operand bits of a well-formed `i`. Which bits 23:0 a row admits depends on
its format alone, and the mask of a row is its opcode byte and the must-be-zero bits of its format. `Answers` says once
what a command can answer, and `writeReg` changes the one register it names.
-/

namespace Sys2Proof

/-! ## The four operand decoders (R72) -/

/-- Bits 31:24 and 23:0 of a word are those of the well-formed command `i` (R72, R74). -/
structure Instr.HasFields (i : Instr) (op low : Nat) : Prop where
  wellFormed : i.wellFormed = true
  opcode : i.opcode = op
  operandBits : i.operandBits = low

section OperandDecoders

variable {op low : Nat} {i j : Instr} {mkN : Nat → Instr} {mkU : RsId → Instr}

theorem decodeZ_eq_some_iff : decodeZ low i = some j ↔ low = 0 ∧ i = j := by
  simp [decodeZ]

theorem decodeR_eq_some_iff : decodeR low mkN = some j ↔ low % 2 ^ 16 = 0 ∧ mkN (low / 2 ^ 16) = j := by
  simp [decodeR]

theorem decodeM_eq_some_iff : decodeM low mkN = some j ↔ mkN low = j := by
  simp [decodeM]

theorem decodeU_number (u : RsId) : decodeU (u.number * 2 ^ 16) mkU = some (mkU u) := by
  cases u <;> rfl

theorem decodeU_eq_some_iff : decodeU low mkU = some j ↔ ∃ u : RsId, low = u.number * 2 ^ 16 ∧ mkU u = j := by
  constructor
  · intro h
    unfold decodeU at h
    split at h
    next h0 => exact ⟨.rs0, h0, Option.some.inj h⟩
    next =>
      split at h
      next h1 => exact ⟨.rs1, h1, Option.some.inj h⟩
      next => nomatch h
  · rintro ⟨u, rfl, rfl⟩
    exact decodeU_number u

theorem decodeZ_hasFields (h : decodeZ low i = some j) (hi : i.HasFields op 0) : j.HasFields op low := by
  obtain ⟨rfl, rfl⟩ := decodeZ_eq_some_iff.1 h
  exact hi

theorem decodeR_hasFields (h : decodeR low mkN = some j) (hlow : low < 2 ^ 24)
    (hmk : ∀ a, a < 2 ^ 8 → (mkN a).HasFields op (a * 2 ^ 16)) : j.HasFields op low := by
  obtain ⟨hmbz, rfl⟩ := decodeR_eq_some_iff.1 h
  have hfield := hmk (low / 2 ^ 16) (by omega)
  rwa [Nat.div_mul_cancel (Nat.dvd_of_mod_eq_zero hmbz)] at hfield

theorem decodeU_hasFields (h : decodeU low mkU = some j)
    (hmk : ∀ u : RsId, (mkU u).HasFields op (u.number * 2 ^ 16)) : j.HasFields op low := by
  obtain ⟨u, rfl, rfl⟩ := decodeU_eq_some_iff.1 h
  exact hmk u

theorem decodeM_hasFields (h : decodeM low mkN = some j) (hlow : low < 2 ^ 24)
    (hmk : ∀ idx, idx < 2 ^ 24 → (mkN idx).HasFields op idx) : j.HasFields op low :=
  decodeM_eq_some_iff.1 h ▸ hmk low hlow

end OperandDecoders

/-! ## Decoding and encoding -/

/-- Each row reads its operand back from where the encoder puts it. -/
theorem decodeFields_operandBits (i : Instr) : decodeFields i.opcode i.operandBits = some i := by
  cases i with
  | nop | einit | eclr | rclr | etick | rtick | mix | frame => rfl
  | wr a | rd a | rinit a =>
    exact decodeR_eq_some_iff.2 ⟨Nat.mul_mod_left a _, congrArg _ (Nat.mul_div_cancel a (Nat.two_pow_pos 16))⟩
  | rsinit u | rsclr u | rstick u => exact decodeU_number u
  | ebrd idx | ebwr idx | wsrd idx | wswr idx => rfl

/-- Row by row in the order of R74, the operand has its format's bits and fits its field. -/
theorem decodeFields_hasFields {op low : Nat} {i : Instr} (hlow : low < 2 ^ 24) (h : decodeFields op low = some i) :
    i.HasFields op low := by
  unfold decodeFields at h
  split at h
  · exact decodeZ_hasFields h ⟨rfl, rfl, rfl⟩
  · exact decodeR_hasFields h hlow fun _ ha => ⟨decide_eq_true ha, rfl, rfl⟩
  · exact decodeR_hasFields h hlow fun _ ha => ⟨decide_eq_true ha, rfl, rfl⟩
  · exact decodeM_hasFields h hlow fun _ hx => ⟨decide_eq_true hx, rfl, rfl⟩
  · exact decodeM_hasFields h hlow fun _ hx => ⟨decide_eq_true hx, rfl, rfl⟩
  · exact decodeM_hasFields h hlow fun _ hx => ⟨decide_eq_true hx, rfl, rfl⟩
  · exact decodeM_hasFields h hlow fun _ hx => ⟨decide_eq_true hx, rfl, rfl⟩
  · exact decodeZ_hasFields h ⟨rfl, rfl, rfl⟩
  · exact decodeR_hasFields h hlow fun _ hp => ⟨decide_eq_true hp, rfl, rfl⟩
  · exact decodeU_hasFields h fun _ => ⟨rfl, rfl, rfl⟩
  · exact decodeZ_hasFields h ⟨rfl, rfl, rfl⟩
  · exact decodeZ_hasFields h ⟨rfl, rfl, rfl⟩
  · exact decodeU_hasFields h fun _ => ⟨rfl, rfl, rfl⟩
  · exact decodeZ_hasFields h ⟨rfl, rfl, rfl⟩
  · exact decodeZ_hasFields h ⟨rfl, rfl, rfl⟩
  · exact decodeU_hasFields h fun _ => ⟨rfl, rfl, rfl⟩
  · exact decodeZ_hasFields h ⟨rfl, rfl, rfl⟩
  · exact decodeZ_hasFields h ⟨rfl, rfl, rfl⟩
  · nomatch h

theorem decodeFields_eq_some_iff {op low : Nat} {i : Instr} (hlow : low < 2 ^ 24) :
    decodeFields op low = some i ↔ i.HasFields op low := by
  refine ⟨decodeFields_hasFields hlow, ?_⟩
  rintro ⟨-, rfl, rfl⟩
  exact decodeFields_operandBits i

theorem low_bits_lt (w : Word) : w.toNat % 2 ^ 24 < 2 ^ 24 := Nat.mod_lt _ (Nat.two_pow_pos 24)

theorem decode_eq_some_iff {w : Word} {i : Instr} :
    decode w = some i ↔ i.HasFields (w.toNat / 2 ^ 24) (w.toNat % 2 ^ 24) :=
  decodeFields_eq_some_iff (low_bits_lt w)

/-- The law of the opcode byte, for every command. -/
theorem opcodeByte (i : Instr) : Laws.OpcodeByte.Statement i :=
  match i with
  | .nop => Laws.OpcodeByte.nop
  | .wr a => Laws.OpcodeByte.wr a
  | .rd a => Laws.OpcodeByte.rd a
  | .ebrd idx => Laws.OpcodeByte.ebrd idx
  | .ebwr idx => Laws.OpcodeByte.ebwr idx
  | .wsrd idx => Laws.OpcodeByte.wsrd idx
  | .wswr idx => Laws.OpcodeByte.wswr idx
  | .einit => Laws.OpcodeByte.einit
  | .rinit p => Laws.OpcodeByte.rinit p
  | .rsinit u => Laws.OpcodeByte.rsinit u
  | .eclr => Laws.OpcodeByte.eclr
  | .rclr => Laws.OpcodeByte.rclr
  | .rsclr u => Laws.OpcodeByte.rsclr u
  | .etick => Laws.OpcodeByte.etick
  | .rtick => Laws.OpcodeByte.rtick
  | .rstick u => Laws.OpcodeByte.rstick u
  | .mix => Laws.OpcodeByte.mix
  | .frame => Laws.OpcodeByte.frame

theorem Instr.HasFields.encode {i : Instr} (h : i.wellFormed = true) :
    i.HasFields ((Sys2Proof.encode i).toNat / 2 ^ 24) ((Sys2Proof.encode i).toNat % 2 ^ 24) := by
  obtain ⟨hop, hlow⟩ := opcodeByte i h
  exact ⟨h, hop.symm, hlow.symm⟩

/-- Settles O1: the word carries the opcode and the operand bits of the command, which are all that decoding reads. -/
theorem encodeThenDecodeGivesCommand : Obligations.EncodeThenDecodeGivesCommand :=
  fun _ h => decode_eq_some_iff.2 (.encode h)

/-- A word is put together again from the two fields that decoding reads. -/
theorem Instr.HasFields.encode_eq {i : Instr} {w : Word} (h : i.HasFields (w.toNat / 2 ^ 24) (w.toNat % 2 ^ 24)) :
    Sys2Proof.encode i = w := by
  unfold Sys2Proof.encode
  rw [h.opcode, h.operandBits, Nat.div_add_mod', BitVec.ofNat_toNat, BitVec.setWidth_eq]

/-- Settles O2: the fields of the command are those of the word, and they are the whole word. -/
theorem decodedWordIsItsEncoding : Obligations.DecodedWordIsItsEncoding := by
  intro w i h
  have hfields := decode_eq_some_iff.1 h
  exact ⟨hfields.wellFormed, hfields.encode_eq⟩

/-! ## The table of R74: rows, formats and masks -/

/-- The formats of R72; P has the bits of R. -/
inductive Format
  | z
  | r
  | u
  | m

def Instr.format : Instr → Format
  | .nop | .einit | .eclr | .rclr | .etick | .rtick | .mix | .frame => .z
  | .wr _ | .rd _ | .rinit _ => .r
  | .rsinit _ | .rsclr _ | .rstick _ => .u
  | .ebrd _ | .ebwr _ | .wsrd _ | .wswr _ => .m

/-- Bits 23:0 that are a command of the format, where the opcode is one of its opcodes (R72). -/
def Format.Admits : Format → Nat → Prop
  | .z, low => low = 0
  | .r, low => low % 2 ^ 16 = 0
  | .u, low => low = 0 ∨ low = 2 ^ 16
  | .m, _ => True

/-- The must-be-zero bits among bits 23:0 (R72). -/
def Format.mbz : Format → Nat
  | .z => 0xFFFFFF
  | .r => 0x00FFFF
  | .u => 0xFEFFFF
  | .m => 0x000000

/-- Bitwise conjunction goes part by part above and below a bit position. -/
theorem and_eq_zero_iff_split (k a b : Nat) :
    a &&& b = 0 ↔ a / 2 ^ k &&& b / 2 ^ k = 0 ∧ a % 2 ^ k &&& b % 2 ^ k = 0 := by
  rw [← Nat.and_div_two_pow, ← Nat.and_mod_two_pow]
  constructor
  · intro h
    simp [h]
  · rintro ⟨hdiv, hmod⟩
    rw [← Nat.div_add_mod (a &&& b) (2 ^ k), hdiv, hmod, Nat.mul_zero]

theorem Format.admits_iff_and_mbz (f : Format) {low : Nat} (hlow : low < 2 ^ 24) :
    f.Admits low ↔ low &&& f.mbz = 0 := by
  cases f with
  | z =>
    show low = 0 ↔ low &&& (2 ^ 24 - 1) = 0
    rw [Nat.and_two_pow_sub_one_eq_mod, Nat.mod_eq_of_lt hlow]
  | r =>
    show low % 2 ^ 16 = 0 ↔ low &&& (2 ^ 16 - 1) = 0
    rw [Nat.and_two_pow_sub_one_eq_mod]
  | u =>
    show low = 0 ∨ low = 2 ^ 16 ↔ low &&& 0xFEFFFF = 0
    rw [and_eq_zero_iff_split 17]
    show _ ↔ low / 2 ^ 17 &&& (2 ^ 7 - 1) = 0 ∧ low % 2 ^ 17 &&& (2 ^ 16 - 1) = 0
    rw [Nat.and_two_pow_sub_one_eq_mod, Nat.and_two_pow_sub_one_eq_mod]
    omega
  | m =>
    show True ↔ low &&& 0 = 0
    rw [Nat.and_zero, eq_self]

/-- Rewritten by its equations first, a row leaves numbers without its operand to evaluate. -/
theorem Instr.toNat_tableRow_match (i : Instr) : i.tableRow.1.toNat = i.opcode * 2 ^ 24 := by
  cases i <;> rw [Instr.tableRow, Instr.opcode] <;> rfl

/-- The mask of a row: the opcode byte and the must-be-zero bits of its format. -/
theorem Instr.toNat_tableRow_mask (i : Instr) : i.tableRow.2.toNat = 0xFF * 2 ^ 24 + i.format.mbz := by
  cases i <;> rw [Instr.tableRow, Instr.format, Format.mbz] <;> rfl

theorem Format.mbz_lt (f : Format) : f.mbz < 2 ^ 24 := by
  cases f <;> simp [Format.mbz]

/-- Masking keeps the opcode byte of a word and the bits of `mbz` below it. -/
theorem and_mask_eq_iff {w op mbz : Nat} (hw : w < 2 ^ 32) (hmbz : mbz < 2 ^ 24) :
    w &&& (0xFF * 2 ^ 24 + mbz) = op * 2 ^ 24 ↔ w / 2 ^ 24 = op ∧ w % 2 ^ 24 &&& mbz = 0 := by
  have hdiv : (w &&& (0xFF * 2 ^ 24 + mbz)) / 2 ^ 24 = w / 2 ^ 24 := by
    rw [Nat.and_div_two_pow, show (0xFF * 2 ^ 24 + mbz) / 2 ^ 24 = 2 ^ 8 - 1 by omega,
      Nat.and_two_pow_sub_one_eq_mod, Nat.mod_eq_of_lt (by omega)]
  have hmod : (w &&& (0xFF * 2 ^ 24 + mbz)) % 2 ^ 24 = w % 2 ^ 24 &&& mbz := by
    rw [Nat.and_mod_two_pow, show (0xFF * 2 ^ 24 + mbz) % 2 ^ 24 = mbz by omega]
  rw [← hdiv, ← hmod]
  omega

theorem matchesRow_iff (w : Word) (i : Instr) :
    w &&& i.tableRow.2 = i.tableRow.1 ↔ w.toNat / 2 ^ 24 = i.opcode ∧ i.format.Admits (w.toNat % 2 ^ 24) := by
  rw [← BitVec.toNat_inj, BitVec.toNat_and, i.toNat_tableRow_mask, i.toNat_tableRow_match,
    and_mask_eq_iff w.isLt i.format.mbz_lt, i.format.admits_iff_and_mbz (low_bits_lt w)]

theorem Instr.admits_operandBits (i : Instr) : i.format.Admits i.operandBits := by
  cases i with
  | nop | einit | eclr | rclr | etick | rtick | mix | frame => rfl
  | wr a | rd a | rinit a => exact Nat.mul_mod_left a _
  | rsinit u | rsclr u | rstick u => cases u <;> simp [Instr.format, Instr.operandBits, Format.Admits, RsId.number]
  | ebrd idx | ebwr idx | wsrd idx | wswr idx => trivial

theorem decodeU_of_admits {low : Nat} (h : Format.u.Admits low) (mk : RsId → Instr) :
    ∃ u, decodeU low mk = some (mk u) := by
  obtain rfl | rfl := h
  · exact ⟨.rs0, rfl⟩
  · exact ⟨.rs1, rfl⟩

/-- Every operand that the format of a row admits makes a command of the row. -/
theorem decodeFields_of_admits {i : Instr} {low : Nat} (h : i.format.Admits low) :
    ∃ j, decodeFields i.opcode low = some j ∧ j.tableRow = i.tableRow := by
  cases i with
  | nop | einit | eclr | rclr | etick | rtick | mix | frame => exact ⟨_, decodeZ_eq_some_iff.2 ⟨h, rfl⟩, rfl⟩
  | wr | rd | rinit => exact ⟨_, decodeR_eq_some_iff.2 ⟨h, rfl⟩, rfl⟩
  | rsinit | rsclr | rstick =>
    obtain ⟨u, hu⟩ := decodeU_of_admits h _
    exact ⟨_, hu, rfl⟩
  | ebrd | ebwr | wsrd | wswr => exact ⟨_, rfl, rfl⟩

/-- A word matches the row of its own command. -/
theorem matchesRow_of_decode {w : Word} {i : Instr} (h : decode w = some i) :
    w &&& i.tableRow.2 = i.tableRow.1 := by
  have hfields := decode_eq_some_iff.1 h
  rw [matchesRow_iff, ← hfields.opcode, ← hfields.operandBits]
  exact ⟨rfl, i.admits_operandBits⟩

theorem decode_of_matchesRow {w : Word} {i : Instr} (h : w &&& i.tableRow.2 = i.tableRow.1) :
    ∃ j, decode w = some j ∧ j.tableRow = i.tableRow := by
  obtain ⟨hop, hlow⟩ := (matchesRow_iff w i).1 h
  unfold decode
  rw [hop]
  exact decodeFields_of_admits hlow

/-- Settles O3: both sides ask for the opcode of the row and for bits that its format admits. -/
theorem decodeMatchesTableRows : Obligations.DecodeMatchesTableRows := by
  refine ⟨fun w i => ⟨decode_of_matchesRow, ?_⟩, fun w hno => ?_⟩
  · rintro ⟨j, hj, hrow⟩
    exact hrow ▸ matchesRow_of_decode hj
  · exact Option.eq_none_iff_forall_ne_some.2 fun i hi => hno i (matchesRow_of_decode hi)

/-- Settles O4, word by word. -/
theorem specWordsDecode : Obligations.SpecWordsDecode :=
  ⟨rfl, rfl, rfl, rfl, rfl, rfl, rfl, rfl⟩

/-! ## Illegal words (R77) -/

theorem decodeZ_eq_none_iff {low : Nat} {i : Instr} : decodeZ low i = none ↔ low ≠ 0 := by
  simp [decodeZ]

theorem decodeR_eq_none_iff {low : Nat} {mk : Nat → Instr} : decodeR low mk = none ↔ low % 2 ^ 16 ≠ 0 := by
  simp [decodeR]

theorem decodeU_eq_none_iff {low : Nat} {mk : RsId → Instr} : decodeU low mk = none ↔ low ≠ 0 ∧ low ≠ 2 ^ 16 := by
  unfold decodeU
  split
  next h0 => simp [h0]
  next h0 => simp [h0]

theorem decodeM_ne_none {low : Nat} {mk : Nat → Instr} : decodeM low mk ≠ none := nofun

/-- The opcodes of no row of R74 (R77). -/
def UnusedOpcode (op : Nat) : Prop :=
  op = 0x03 ∨ (0x08 ≤ op ∧ op ≤ 0x0F) ∨ (0x13 ≤ op ∧ op ≤ 0x17) ∨ (0x1B ≤ op ∧ op ≤ 0x1F) ∨ 0x25 ≤ op

theorem decodeFields_eq_none_iff (op low : Nat) :
    decodeFields op low = none ↔
      UnusedOpcode op ∨ (op ∈ [0x00, 0x10, 0x18, 0x19, 0x20, 0x21, 0x23, 0x24] ∧ low ≠ 0) ∨
      (op ∈ [0x01, 0x02, 0x11] ∧ low % 2 ^ 16 ≠ 0) ∨
      (op ∈ [0x12, 0x1A, 0x22] ∧ low ≠ 0 ∧ low ≠ 2 ^ 16) := by
  unfold decodeFields UnusedOpcode
  split
  case h_19 =>
    simp only [List.mem_cons, List.not_mem_nil, or_false, true_iff, imp_false] at *
    omega
  all_goals simp [decodeZ_eq_none_iff, decodeR_eq_none_iff, decodeU_eq_none_iff, decodeM_ne_none]

end Sys2Proof

namespace Sys2Proof.Machine

/-! ## What a command answers (R70, R236) -/

/-- RD, EBRD and WSRD: the commands that answer a register or a word. -/
def isRead : Instr → Bool
  | .rd _ | .ebrd _ | .wsrd _ => true
  | _ => false

/-- The answer of a command that reads nothing, or an error: RDATA is 0, and the code is that of a word that decodes. -/
def State.AnswersNoData (t : State) : Prop := ∃ r : Response, r ≠ .illegal ∧ t.Answered r 0#32

/-- Every next state of `k` has answered without data, or OK where `data` says that the command reads. -/
def Answers (data : Bool) (k : Result) : Prop :=
  ∀ t, k = .next t → t.AnswersNoData ∨ (data = true ∧ ∃ v, t.Answered .ok v)

section Answers

variable {s t : State} {data : Bool} {k : Result} {e : Response}

theorem State.answersNoData_takeError (s : State) (he : e ≠ .illegal) (u : Option UnitId) :
    (s.takeError e u).AnswersNoData :=
  ⟨e, he, by simp [State.Answered]⟩

theorem Answers.noData (h : t.AnswersNoData) : Answers data (.next t) := by
  intro t' ht
  obtain rfl := Host.Outcome.next.inj ht
  exact .inl h

theorem Answers.respondOk (t : State) : Answers data (.next t.respondOk) :=
  .noData ⟨.ok, nofun, t.answered_respondOk⟩

theorem Answers.takeError (s : State) (e : Response) (he : e ≠ .illegal) (u : Option UnitId) :
    Answers data (.next (s.takeError e u)) :=
  .noData (s.answersNoData_takeError he u)

theorem Answers.takeWatchdog (s : State) (u : RsId) (f : Bool) : Answers data (.next (s.takeWatchdog u f)) := by
  unfold State.takeWatchdog
  exact .takeError _ .watchdog nofun _

theorem Answers.read (s : State) (v : Word) : Answers true (.next (s.respond .ok v)) := by
  intro t ht
  obtain rfl := Host.Outcome.next.inj ht
  exact .inr ⟨rfl, v, rfl, rfl⟩

theorem Answers.check {ok : Bool} (he : e ≠ .illegal) (hk : Answers data k) : Answers data (check ok e s k) := by
  cases ok with
  | false => exact .takeError s e he none
  | true => exact hk

theorem Answers.checkFatal {ok : Bool} {u : UnitId} (he : e ≠ .illegal) (hk : Answers data k) :
    Answers data (checkFatal ok e u s k) := by
  cases ok with
  | false => exact .takeError s e he (some u)
  | true => exact hk

theorem Answers.checkLive (hk : Answers data k) : Answers data (checkLive s k) :=
  .check nofun hk

theorem Answers.requireRam {ok : Bool} {f : Fault} (hk : Answers data k) : Answers data (requireRam ok f k) := by
  cases ok with
  | false => nofun
  | true => exact hk

end Answers

/-- One passage through the checks of each command's meaning: no check raises ERR_ILLEGAL, and only the reads end with
data. -/
theorem exec_answers (i : Instr) (s : State) : Answers (isRead i) (exec i s) := by
  cases i with
  | nop => exact .respondOk s
  | wr a =>
    refine .checkLive ?_
    cases Reg.ofNumber a with
    | none => exact .takeError s .range nofun none
    | some r => exact .check nofun (.respondOk _)
  | rd a =>
    show Answers true (execRd a s)
    unfold execRd
    cases Reg.ofNumber a with
    | none => exact .takeError s .range nofun none
    | some r => exact .read s _
  | ebrd idx | wsrd idx => exact .check nofun (.read s _)
  | ebwr idx | wswr idx => exact .checkLive (.check nofun (.respondOk _))
  | einit => exact .checkLive (.checkFatal nofun (.checkFatal nofun (.respondOk _)))
  | rinit p =>
    refine .checkLive ?_
    cases s.cfg.presets[p]? with
    | none => exact .takeError s .range nofun none
    | some preset => exact .checkFatal nofun (.checkFatal nofun (.respondOk _))
  | rsinit u => exact .checkLive (.checkFatal nofun (.respondOk _))
  | rsclr u => exact .checkLive (.check nofun (.respondOk _))
  | eclr | rclr | etick | rtick => exact .checkLive (.check nofun (.requireRam (.respondOk _)))
  | rstick u =>
    refine .checkLive (.check nofun (.requireRam ?_))
    cases s.rsTick u with
    | none => exact .takeWatchdog s u false
    | some t => exact .respondOk t
  | mix => exact .checkLive (.respondOk _)
  | frame =>
    refine .checkLive (.check nofun (.requireRam (.requireRam ?_)))
    cases s.rsTick .rs0 with
    | none => exact .takeWatchdog s .rs0 true
    | some s1 =>
      dsimp only
      cases s1.rsTick .rs1 with
      | none => exact .takeWatchdog s1 .rs1 true
      | some s2 => exact .respondOk _

/-- On the four bits of RESP no other code is that of ERR_ILLEGAL. -/
theorem Response.eq_illegal_of_resp {r : Response} (h : BitVec.ofNat 4 r.code = 1#4) : r = .illegal := by
  revert h
  cases r <;> decide

/-- Settles O43: an answer without data is 0, and an answer with data is OK from one of the three reads. -/
theorem errorsAnswerZeroData : Obligations.ErrorsAnswerZeroData := by
  intro i s t h
  obtain ⟨r, -, hresp, hdata⟩ | ⟨hread, v, hresp, -⟩ := exec_answers i s t h
  · exact ⟨⟨r, hresp⟩, fun _ => hdata, fun _ _ _ => hdata⟩
  · refine ⟨⟨.ok, hresp⟩, fun herr => absurd hresp herr, fun hrd hebrd hwsrd => ?_⟩
    cases i with
    | rd a => exact absurd rfl (hrd a)
    | ebrd x => exact absurd rfl (hebrd x)
    | wsrd x => exact absurd rfl (hwsrd x)
    | _ => nomatch hread

/-! ## Illegal words answer ERR_ILLEGAL, commands do not (R77) -/

theorem step_illegal {s : State} {rest : List HostEvent} {c w : Word} (h : s.pending = .transaction c w :: rest)
    (hd : decode c = none) : step s = .next ((s.present rest c w).takeError .illegal none) := by
  rw [step, State.fetch_illegal h hd]

theorem exec_resp_ne_illegal {i : Instr} {s t : State} (h : exec i s = .next t) : t.port.resp ≠ 1#4 := by
  intro hill
  obtain ⟨r, hr, hresp, -⟩ | ⟨-, v, hresp, -⟩ := exec_answers i s t h
  · exact hr (Response.eq_illegal_of_resp (hresp.symm.trans hill))
  · exact absurd (hresp.symm.trans hill) (by decide)

/-- Settles O5: the words by their fields, the step by what fetching an illegal word gives, the commands by their
answers. -/
theorem illegalWordsAnswerIllegal : Obligations.IllegalWordsAnswerIllegal :=
  ⟨fun _ => decodeFields_eq_none_iff _ _, fun _ _ _ _ hp hd => step_illegal hp hd, fun _ _ _ => exec_resp_ne_illegal⟩

/-! ## WR (R73, R217) -/

theorem Echo.getCfg_setCfg_same (e : Echo) (p : EchoParam) (v : F) : (e.setCfg p v).getCfg p = v := by
  cases p <;> rfl

theorem Echo.getCfg_setCfg_other (e : Echo) {p q : EchoParam} (h : q ≠ p) (v : F) :
    (e.setCfg p v).getCfg q = e.getCfg q := by
  cases p <;> cases q <;> first | rfl | exact absurd rfl h

theorem Echo.getCfg_setMod (e : Echo) (p q : EchoParam) (v : F) : (e.setMod p v).getCfg q = e.getCfg q := by
  cases p <;> cases q <;> rfl

theorem Echo.getMod_setCfg (e : Echo) (p q : EchoParam) (v : F) : (e.setCfg p v).getMod q = e.getMod q := by
  cases p <;> cases q <;> rfl

theorem Echo.getMod_setMod_same (e : Echo) (p : EchoParam) (v : F) : (e.setMod p v).getMod p = v := by
  cases p <;> rfl

theorem Echo.getMod_setMod_other (e : Echo) {p q : EchoParam} (h : q ≠ p) (v : F) :
    (e.setMod p v).getMod q = e.getMod q := by
  cases p <;> cases q <;> first | rfl | exact absurd rfl h

/-- A written register reads back what it stores of the word. -/
theorem State.readReg_writeReg_same (s : State) {r : Reg} (hr : r.writable = true) (v : Word) :
    (s.writeReg r v).readReg r = r.stored v := by
  cases r with
  | sample i => exact s.samples.get_set_same i v
  | xfade | wetdry | arg0 | arg1 => rfl
  | ecfg p => exact s.echo.getCfg_setCfg_same p v
  | emod p => exact s.echo.getMod_setMod_same p v
  | firc i => exact congrArg (BitVec.signExtend 32) (s.echo.firc.get_set_same i _)
  | _ => nomatch hr

theorem State.rs_writeReg (s : State) (r : Reg) (v : Word) (u : RsId) : (s.writeReg r v).rs u = s.rs u := by
  cases r <;> cases u <;> rfl

/-- Another register is one of the same kind at another place, or a field that is not written. -/
theorem State.readReg_writeReg_other (s : State) {r q : Reg} (h : q ≠ r) (v : Word) :
    (s.writeReg r v).readReg q = s.readReg q := by
  cases q with
  | sample j =>
    cases r with
    | sample i => exact s.samples.get_set_other (fun hj => h (congrArg Reg.sample hj)) v
    | _ => rfl
  | xfade | wetdry | arg0 | arg1 => cases r <;> first | rfl | exact absurd rfl h
  | ecfg p =>
    cases r with
    | ecfg p' => exact s.echo.getCfg_setCfg_other (fun hp => h (congrArg Reg.ecfg hp)) v
    | emod p' => exact s.echo.getCfg_setMod p' p v
    | _ => cases p <;> rfl
  | emod p =>
    cases r with
    | emod p' => exact s.echo.getMod_setMod_other (fun hp => h (congrArg Reg.emod hp)) v
    | ecfg p' => exact s.echo.getMod_setCfg p' p v
    | _ => cases p <;> rfl
  | firc j =>
    cases r with
    | firc i =>
      have hother := s.echo.firc.get_set_other (fun hj => h (congrArg Reg.firc hj)) (v.setWidth 8)
      exact congrArg (BitVec.signExtend 32) hother
    | ecfg p | emod p => cases p <;> rfl
    | _ => rfl
  | eeff p =>
    cases r with
    | ecfg p' | emod p' => cases p' <;> cases p <;> rfl
    | _ => cases p <;> rfl
  | rs u k => exact congrArg (Rs.get · k) (s.rs_writeReg r v u)
  | _ =>
    cases r with
    | ecfg p | emod p => cases p <;> rfl
    | _ => rfl

/-- Everything that WR leaves alone. -/
theorem State.writeReg_frame (s : State) (r : Reg) (v : Word) : Frame s (s.writeReg r v) (· = r) nothing nothing := by
  refine ⟨fun q hq => s.readReg_writeReg_other hq v, ?_⟩
  cases r with
  | ecfg p | emod p => cases p <;> exact ⟨fun _ _ => rfl, fun _ _ => rfl, rfl, rfl, rfl, rfl, rfl⟩
  | _ => exact ⟨fun _ _ => rfl, fun _ _ => rfl, rfl, rfl, rfl, rfl, rfl⟩

theorem exec_wr_writable {s : State} {a : Nat} {r : Reg} (hlive : s.status.fatal = false)
    (ha : Reg.ofNumber a = some r) (hr : r.writable = true) :
    exec (.wr a) s = .next (s.writeReg r s.port.wdata).respondOk := by
  show execWr a s = _
  rw [execWr, checkLive_of_live hlive, ha]
  dsimp only
  rw [hr, check_true]

/-- Settles O13: past its checks WR is one `writeReg`. -/
theorem wrWritesOneRegister : Obligations.WrWritesOneRegister := by
  intro s a r hlive ha hr
  refine ⟨_, exec_wr_writable hlive ha hr, State.answered_respondOk _, ?_, (s.writeReg_frame r _).respondOk⟩
  rw [State.readReg_respondOk, s.readReg_writeReg_same hr]
  cases r <;> rfl

end Sys2Proof.Machine

/-!
PROOFS. The statements of the arithmetic units (40_arith_units). A rounded pattern lies between the halfway points at its
two sides (`NearestMag`), which is what `RoundsTo` says of its value; sum, difference, product, quotient and conversions
are roundings, and what is exact about them follows from `RoundsTo` alone. QSIN is compared with the tails of the sine
series: each Horner step takes the next tail to the one before it and halves the distance.
-/

namespace Sys2Proof.Machine

/-! ## Signed values -/

/-- The number with sign bit `s` and magnitude `m`. -/
def signed (s : Bool) (m : Nat) : Int := if s then -(m : Int) else (m : Int)

theorem fReal_eq_signed (x : F) : fReal x = signed (fSign x) (fUnits x) := rfl

@[simp] theorem signed_zero (s : Bool) : signed s 0 = 0 := by cases s <;> rfl

@[simp] theorem natAbs_signed (s : Bool) (m : Nat) : (signed s m).natAbs = m := by
  cases s <;> simp [signed]

theorem signed_mul_signed (s t : Bool) (a b : Nat) : signed s a * signed t b = signed (s != t) (a * b) := by
  cases s <;> cases t <;> simp [signed]

theorem signed_natAbs (t : Int) : signed (decide (t < 0)) t.natAbs = t := by
  unfold signed
  split
  next h => have := of_decide_eq_true h; omega
  next h => have := of_decide_eq_false (Bool.eq_false_of_not_eq_true h); omega

/-- On one side of 0 the distance is that of the magnitudes, across 0 it is their sum. -/
theorem natAbs_signed_sub_signed (s t : Bool) (a b : Nat) :
    (signed s a - signed t b).natAbs = if s = t then ((a : Int) - b).natAbs else a + b := by
  cases s <;> cases t <;> simp [signed] <;> omega

@[simp] theorem natAbs_fReal (x : F) : (fReal x).natAbs = magUnits (fMag x) := natAbs_signed _ _

theorem fReal_eq_zero_iff {x : F} : fReal x = 0 ↔ fMag x = 0 := by
  rw [← Int.natAbs_eq_zero, natAbs_fReal]
  exact magUnits_strictMono.injective.eq_iff' magUnits_zero

/-- A value and a sign bit fix the pattern: only the two zeros share a value. -/
theorem eq_of_fReal_eq {x y : F} (hs : fSign x = fSign y) (h : fReal x = fReal y) : x = y := by
  have hmag : fMag x = fMag y := magUnits_strictMono.injective <| by
    rw [← natAbs_fReal, h, natAbs_fReal]
  rw [← fPack_fSign_fMag x, hs, hmag, fPack_fSign_fMag]

/-! ## The nearest pattern (R90) -/

/-- Twice the point halfway between the values of the patterns `p` and `p + 1`. -/
def twiceMid (p : Nat) : Nat := magUnits p + magUnits (p + 1)

/-- The pattern `z` (bits 30:0, with no bound above) is nearest to `n / d` units: `n / d` lies between the halfway
points at the two sides of `z`, and on one of them only where `z` is even. -/
structure NearestMag (z n d : Nat) : Prop where
  le_mid : 2 * n + z % 2 ≤ twiceMid z * d
  mid_le : ∀ p, p + 1 = z → twiceMid p * d + z % 2 ≤ 2 * n

/-- No pattern is nearer, and another is as near only where `z` is even. -/
theorem NearestMag.dist_le {z n d : Nat} (h : NearestMag z n d) (hd : 0 < d) (w : Nat) :
    ((magUnits z * d : Nat) - n : Int).natAbs ≤ ((magUnits w * d : Nat) - n : Int).natAbs ∧
    (((magUnits z * d : Nat) - n : Int).natAbs = ((magUnits w * d : Nat) - n : Int).natAbs → w = z ∨ z % 2 = 0) := by
  have hmono {p q : Nat} (hpq : p ≤ q) : magUnits p * d ≤ magUnits q * d :=
    Nat.mul_le_mul_right d (magUnits_strictMono.monotone hpq)
  have hstep (p : Nat) : magUnits p * d < magUnits (p + 1) * d :=
    Nat.mul_lt_mul_of_pos_right (magUnits_strictMono p.lt_succ_self) hd
  rcases Nat.lt_trichotomy w z with hw | rfl | hw
  · obtain ⟨p, rfl⟩ := Nat.exists_eq_add_of_lt (Nat.zero_lt_of_lt hw)
    rw [Nat.zero_add] at h hw ⊢
    have hmid := h.mid_le p rfl
    rw [twiceMid, Nat.add_mul] at hmid
    have := hmono (Nat.le_of_lt_succ hw)
    have := hstep p
    omega
  · exact ⟨le_rfl, fun _ => .inl rfl⟩
  · have hmid := h.le_mid
    rw [twiceMid, Nat.add_mul] at hmid
    have := hmono (show z + 1 ≤ w from hw)
    have := hstep z
    omega

/-- Rounding 0 gives 0. -/
theorem NearestMag.eq_zero {z d : Nat} (h : NearestMag z 0 d) (hd : 0 < d) : z = 0 := by
  rcases z with _ | p
  · rfl
  · have hmid := h.mid_le p rfl
    have hpos : 0 < twiceMid p * d :=
      Nat.mul_pos (Nat.add_pos_right _ (Nat.zero_lt_of_lt (magUnits_strictMono p.lt_succ_self))) hd
    omega

/-- The halfway point above the largest finite value. -/
theorem twiceMid_largest : twiceMid (fInfMag - 1) = 2 * (2 ^ 252 * (2 ^ 25 - 1)) := by decide +kernel

theorem twiceMid_strictMono : StrictMono twiceMid := fun _ _ h =>
  Nat.add_lt_add (magUnits_strictMono h) (magUnits_strictMono (Nat.succ_lt_succ h))

/-- The nearest pattern is finite exactly below the halfway point above the largest finite value, which is odd. -/
theorem NearestMag.lt_fInfMag_iff {z n d : Nat} (h : NearestMag z n d) (hd : 0 < d) :
    z < fInfMag ↔ n < 2 ^ 252 * (2 ^ 25 - 1) * d := by
  have hodd : (fInfMag - 1) % 2 = 1 := rfl
  have hlargest : twiceMid (fInfMag - 1) * d = 2 * (2 ^ 252 * (2 ^ 25 - 1) * d) := by
    rw [twiceMid_largest, Nat.mul_assoc]
  constructor
  · intro hz
    have hmid := h.le_mid
    rcases Nat.lt_or_eq_of_le (Nat.le_sub_one_of_lt hz) with hlt | rfl
    · have := Nat.mul_lt_mul_of_pos_right (twiceMid_strictMono hlt) hd
      omega
    · omega
  · intro hn
    by_contra hz
    obtain ⟨p, rfl⟩ : ∃ p, z = p + 1 := ⟨z - 1, by unfold fInfMag at hz; omega⟩
    have hmid := h.mid_le p rfl
    have := Nat.mul_le_mul_right d (twiceMid_strictMono.monotone (show fInfMag - 1 ≤ p by omega))
    omega

theorem fIsFinite_fPack (s : Bool) {mag : Nat} (h : mag < 2 ^ 31) :
    fIsFinite (fPack s mag) = true ↔ mag < fInfMag := by
  rw [fIsFinite_iff, fMag_fPack s h]

/-- The nearest pattern with its sign, or the infinity above the finite ones, is the once-rounded value (R90). -/
theorem NearestMag.roundsTo {z n d : Nat} (h : NearestMag z n d) (hd : 0 < d) (s t : Bool) :
    RoundsTo (fPack (s != t) (min fInfMag z)) (s != t) (signed s n) (signed t d) := by
  have hmag : min fInfMag z < 2 ^ 31 := (Nat.min_le_left _ _).trans_lt (by norm_num [fInfMag])
  have hfin : fIsFinite (fPack (s != t) (min fInfMag z)) = true ↔ z < fInfMag := by
    rw [fIsFinite_fPack _ hmag]
    omega
  have hdist (v : F) : |fReal v * signed t d - signed s n| =
      if fSign v = (s != t) then (((magUnits (fMag v) * d : Nat) - n : Int).natAbs : Int)
      else ((magUnits (fMag v) * d + n : Nat) : Int) := by
    rw [Int.abs_eq_natAbs, fReal_eq_signed, signed_mul_signed, natAbs_signed_sub_signed, ← fUnits_eq_magUnits]
    cases fSign v <;> cases s <;> cases t <;> simp
  refine ⟨fSign_fPack _ hmag, ?_, fun hinf => ?_, fun hz v _ => ?_⟩
  · rw [hfin, h.lt_fInfMag_iff hd, Int.abs_eq_natAbs, Int.abs_eq_natAbs, natAbs_signed, natAbs_signed]
    omega
  · rw [← Bool.not_eq_true, hfin] at hinf
    rw [fIsInf, fMag_fPack _ hmag, decide_eq_true_iff]
    omega
  · have hmin : min fInfMag z = z := Nat.min_eq_right (hfin.1 hz).le
    rw [hmin] at hmag ⊢
    have hparity : (fPack (s != t) z).toNat % 2 = z % 2 := by
      rw [fPack_toNat _ hmag]
      split <;> omega
    dsimp only
    rw [hdist, hdist, fSign_fPack _ hmag, fMag_fPack _ hmag, if_pos rfl, hparity]
    obtain ⟨hle, htie⟩ := h.dist_le hd (fMag v)
    split
    next hs =>
      refine ⟨by exact_mod_cast hle, fun heq => ?_⟩
      rcases htie (by exact_mod_cast heq) with rfl | heven
      · rw [← hs, fPack_fSign_fMag]
        exact .inl rfl
      · exact .inr heven
    next hs =>
      obtain ⟨hle0, htie0⟩ := h.dist_le hd 0
      rw [magUnits_zero, Nat.zero_mul] at hle0 htie0
      refine ⟨by omega, fun heq => .inr ?_⟩
      rcases htie0 (by omega) with rfl | heven
      · rfl
      · exact heven

/-! ### `roundMag` gives the nearest pattern -/

/-- The quotient is at most half a unit below the exact one, and exactly that only to an even number. -/
theorem two_mul_le_roundShift (m k : Nat) :
    2 * m + roundShift m k % 2 ≤ (2 * roundShift m k + 1) * 2 ^ k := by
  have hdiv := Nat.div_add_mod' m (2 ^ k)
  have hmod := Nat.mod_lt m (Nat.two_pow_pos k)
  unfold roundShift
  dsimp only
  split
  · rw [Nat.add_mul, Nat.mul_assoc, Nat.add_mul]
    omega
  · rw [Nat.add_mul, Nat.mul_assoc]
    omega

/-- A quotient above the exact one was rounded up from at least half, from exactly half only to an even number. -/
theorem roundShift_eq_succ {m k : Nat} (h : m < roundShift m k * 2 ^ k) :
    roundShift m k = m / 2 ^ k + 1 ∧ (2 * (m / 2 ^ k) + 1) * 2 ^ k + roundShift m k % 2 ≤ 2 * m := by
  have hdiv := Nat.div_add_mod' m (2 ^ k)
  unfold roundShift at h ⊢
  dsimp only at h ⊢
  split at h
  next hup =>
    rw [if_pos hup, Nat.add_mul, Nat.mul_assoc]
    omega
  next hdown => omega

/-- The pattern after `e`, `m` is at least one unit of the last place above. -/
theorem le_magUnits_succ {e m : Nat} (hm : m ≤ 2 ^ 24) (h : e = 0 ∨ 2 ^ 23 ≤ m) :
    (m + 1) * 2 ^ e ≤ magUnits (e * 2 ^ 23 + m + 1) := by
  rcases hm.lt_or_eq with hlt | rfl
  · rw [Nat.add_assoc, magUnits_exponent_significand hlt (by omega)]
  · rw [show e * 2 ^ 23 + 2 ^ 24 + 1 = (e + 1) * 2 ^ 23 + (2 ^ 23 + 1) by ring,
      magUnits_exponent_significand (by norm_num) (by omega), Nat.pow_succ]
    omega

/-- Cutting `sh` bits off `m` leaves 24 of them, or fewer above the least exponent. -/
theorem nearestMag_roundShift {m sh e d : Nat} (hlen : bitLength m ≤ sh + 24)
    (he : e = 0 ∨ bitLength m = sh + 24) (hd : 2 ^ e * d = 2 ^ sh) :
    NearestMag (e * 2 ^ 23 + roundShift m sh) m d := by
  have hsig : roundShift m sh ≤ 2 ^ 24 := roundShift_le_two_pow_24 hlen
  have hnormal : e = 0 ∨ 2 ^ 23 ≤ roundShift m sh := he.imp_right two_pow_23_le_roundShift
  have hvalue := magUnits_exponent_significand hsig hnormal
  have hscale (a : Nat) : a * 2 ^ e * d = a * 2 ^ sh := by rw [Nat.mul_assoc, hd]
  refine ⟨?_, fun p hp => ?_⟩
  · calc 2 * m + (e * 2 ^ 23 + roundShift m sh) % 2
        = 2 * m + roundShift m sh % 2 := by omega
      _ ≤ (2 * roundShift m sh + 1) * 2 ^ sh := two_mul_le_roundShift m sh
      _ = (roundShift m sh * 2 ^ e + (roundShift m sh + 1) * 2 ^ e) * d := by rw [← hscale]; ring
      _ ≤ twiceMid (e * 2 ^ 23 + roundShift m sh) * d := by
        rw [twiceMid, hvalue]
        exact Nat.mul_le_mul_right d (Nat.add_le_add_left (le_magUnits_succ hsig hnormal) _)
  · rcases Nat.lt_or_ge m (roundShift m sh * 2 ^ sh) with hup | hdown
    · obtain ⟨hsucc, hhalf⟩ := roundShift_eq_succ hup
      have hp' : p = e * 2 ^ 23 + m / 2 ^ sh := by omega
      have hq : e = 0 ∨ 2 ^ 23 ≤ m / 2 ^ sh := he.imp_right fun h => by
        rw [Nat.le_div_iff_mul_le (Nat.two_pow_pos sh), ← Nat.pow_add]
        have htop := two_pow_le_of_bitLength (m := m) (by rintro rfl; simp [bitLength] at h)
        rwa [h, show sh + 24 - 1 = 23 + sh by omega] at htop
      rw [twiceMid, hp, hvalue, hp', magUnits_exponent_significand (by omega) hq, Nat.add_mul, hscale, hscale]
      rw [hsucc] at hhalf ⊢
      linarith [hhalf, show (e * 2 ^ 23 + (m / 2 ^ sh + 1)) % 2 = (m / 2 ^ sh + 1) % 2 by omega]
    · have hlt : magUnits p * d < roundShift m sh * 2 ^ sh := by
        rw [← hscale, ← hvalue, ← hp]
        refine Nat.mul_lt_mul_of_pos_right (magUnits_strictMono p.lt_succ_self) ?_
        exact Nat.pos_of_mul_pos_left (hd ▸ Nat.two_pow_pos sh)
      rw [twiceMid, hp, hvalue, Nat.add_mul, hscale]
      omega

/-- `roundMag` rounds `m · 2^-k` to the nearest pattern, or to infinity above the finite ones (R90). -/
theorem exists_nearestMag_roundMag (m : Nat) {k : Nat} (hk : 149 ≤ k) :
    ∃ z, roundMag m k = min fInfMag z ∧ NearestMag z m (2 ^ (k - 149)) := by
  refine ⟨_, rfl, nearestMag_roundShift (by omega) (by omega) ?_⟩
  rw [← Nat.pow_add]
  exact congrArg (2 ^ ·) (by omega)

/-- A packed rounding of `m · 2^-k` is that number rounded once, for any fraction that stands as `m · 2^-k` does
between the halfway points. -/
theorem roundsTo_fPack_roundMag {m k n d : Nat} (hk : 149 ≤ k) (hd : 0 < d) (s t : Bool)
    (h : ∀ z, NearestMag z m (2 ^ (k - 149)) → NearestMag z n d) :
    RoundsTo (fPack (s != t) (roundMag m k)) (s != t) (signed s n) (signed t d) := by
  obtain ⟨z, hz, hnear⟩ := exists_nearestMag_roundMag m hk
  rw [hz]
  exact (h z hnear).roundsTo hd s t

theorem roundsTo_roundMag_natAbs {s : Bool} {t : Int} (ht : t = signed s t.natAbs) :
    RoundsTo (fPack s (roundMag t.natAbs 149)) s t 1 := by
  have h := roundsTo_fPack_roundMag (m := t.natAbs) (k := 149) le_rfl Nat.one_pos s false fun _ h => h
  rw [← ht, Bool.bne_false] at h
  exact h

/-! ## Infinities and NaN -/

theorem fIsInf_iff {x : F} : fIsInf x = true ↔ fMag x = fInfMag := decide_eq_true_iff

theorem fIsNaN_of_isInf {x : F} (h : fIsInf x = true) : fIsNaN x = false :=
  decide_eq_false (fIsInf_iff.1 h).le.not_gt

theorem fMag_ne_zero_of_isInf {x : F} (h : fIsInf x = true) : fMag x ≠ 0 := by
  rw [fIsInf_iff.1 h]
  decide

@[simp] theorem fIsInf_fNeg (x : F) : fIsInf (fNeg x) = fIsInf x := by
  rw [fIsInf, fIsInf, fMag_fNeg]

theorem fIsFinite_fNeg (x : F) : fIsFinite (fNeg x) = fIsFinite x := by
  rw [fIsFinite, fIsFinite, fMag_fNeg]

theorem eq_of_isInf {x y : F} (hx : fIsInf x = true) (hy : fIsInf y = true) (hs : fSign x = fSign y) : x = y := by
  rw [← fPack_fSign_fMag x, hs, fIsInf_iff.1 hx, ← fIsInf_iff.1 hy, fPack_fSign_fMag]

/-! ## Sum and difference -/

section AddSub

variable {x y : F}

theorem fadd_eq_fAddNonNaN (hx : fIsNaN x = false) (hy : fIsNaN y = false)
    (h : fIsInf x = true → fIsInf y = true → fSign x = fSign y) : fadd x y = fAddNonNaN x y := by
  refine if_neg fun hnan => ?_
  simp only [hx, hy, Bool.false_or, Bool.and_eq_true, bne_iff_ne] at hnan
  exact hnan.2 (h hnan.1.1 hnan.1.2)

theorem fsub_eq_fAddNonNaN (hx : fIsNaN x = false) (hy : fIsNaN y = false)
    (h : fIsInf x = true → fIsInf y = true → fSign x ≠ fSign y) : fsub x y = fAddNonNaN x (fNeg y) := by
  refine if_neg fun hnan => ?_
  simp only [hx, hy, Bool.false_or, Bool.and_eq_true, beq_iff_eq] at hnan
  exact h hnan.1.1 hnan.1.2 hnan.2

theorem fAddNonNaN_of_isInf_left (hx : fIsInf x = true) : fAddNonNaN x y = x := if_pos hx

theorem fAddNonNaN_of_isInf_right (hx : fIsFinite x = true) (hy : fIsInf y = true) : fAddNonNaN x y = y := by
  rw [fAddNonNaN, fIsInf_of_finite hx, if_neg Bool.false_ne_true, if_pos hy]

theorem roundsTo_fAddNonNaN (hx : fIsFinite x = true) (hy : fIsFinite y = true) :
    RoundsTo (fAddNonNaN x y) (if fReal x + fReal y = 0 then fSign x && fSign y else decide (fReal x + fReal y < 0))
      (fReal x + fReal y) 1 := by
  unfold fAddNonNaN
  rw [fIsInf_of_finite hx, fIsInf_of_finite hy, if_neg Bool.false_ne_true, if_neg Bool.false_ne_true]
  generalize fReal x + fReal y = t
  dsimp only
  split
  next h0 =>
    subst h0
    have hzero := roundsTo_roundMag_natAbs (s := fSign x && fSign y) (signed_zero _).symm
    rwa [Int.natAbs_zero, show roundMag 0 149 = 0 from rfl] at hzero
  next => exact roundsTo_roundMag_natAbs (signed_natAbs t).symm

theorem roundsTo_fadd (hx : fIsFinite x = true) (hy : fIsFinite y = true) :
    RoundsTo (fadd x y) (if fReal x + fReal y = 0 then fSign x && fSign y else decide (fReal x + fReal y < 0))
      (fReal x + fReal y) 1 := by
  rw [fadd_eq_fAddNonNaN (fIsNaN_of_finite hx) (fIsNaN_of_finite hy) (by simp [fIsInf_of_finite hx])]
  exact roundsTo_fAddNonNaN hx hy

theorem roundsTo_fsub (hx : fIsFinite x = true) (hy : fIsFinite y = true) :
    RoundsTo (fsub x y) (if fReal x - fReal y = 0 then fSign x && !fSign y else decide (fReal x - fReal y < 0))
      (fReal x - fReal y) 1 := by
  rw [fsub_eq_fAddNonNaN (fIsNaN_of_finite hx) (fIsNaN_of_finite hy) (by simp [fIsInf_of_finite hx]),
    sub_eq_add_neg, ← fReal_fNeg, ← fSign_fNeg]
  exact roundsTo_fAddNonNaN hx (by rwa [fIsFinite_fNeg])

theorem fadd_of_isNaN (h : fIsNaN x = true ∨ fIsNaN y = true) : fadd x y = fNaN .add x y := by
  rcases h with h | h <;> simp [fadd, h]

theorem fsub_of_isNaN (h : fIsNaN x = true ∨ fIsNaN y = true) : fsub x y = fNaN .sub x y := by
  rcases h with h | h <;> simp [fsub, h]

end AddSub

/-- Settles O53: every result that is not a generated NaN is one of `fAddNonNaN`, which rounds the exact sum once; the
difference adds the negated operand. -/
theorem addSubRoundToNearestEven : Obligations.AddSubRoundToNearestEven := by
  intro x y
  refine ⟨fun hx hy => ⟨roundsTo_fadd hx hy, roundsTo_fsub hx hy⟩, fun hnan => ?_,
    fun hx hy => ⟨fun hs => ?_, fun hs => ?_⟩, fun hx hy => ?_, fun hx hy => ?_⟩
  · rw [fadd_of_isNaN hnan, fsub_of_isNaN hnan]
    exact ⟨fIsQuietNaN_fNaN _ x y, fIsQuietNaN_fNaN _ x y⟩
  · rw [fadd_eq_fAddNonNaN (fIsNaN_of_isInf hx) (fIsNaN_of_isInf hy) fun _ _ => hs]
    exact ⟨fAddNonNaN_of_isInf_left hx, by simp [fsub, hx, hy, hs]⟩
  · rw [fsub_eq_fAddNonNaN (fIsNaN_of_isInf hx) (fIsNaN_of_isInf hy) fun _ _ => hs]
    exact ⟨by simp [fadd, hx, hy, hs], fAddNonNaN_of_isInf_left hx⟩
  · have hy' := fIsInf_of_finite hy
    rw [fadd_eq_fAddNonNaN (fIsNaN_of_isInf hx) (fIsNaN_of_finite hy) (by simp [hy']),
      fsub_eq_fAddNonNaN (fIsNaN_of_isInf hx) (fIsNaN_of_finite hy) (by simp [hy'])]
    exact ⟨fAddNonNaN_of_isInf_left hx, fAddNonNaN_of_isInf_left hx⟩
  · have hx' := fIsInf_of_finite hx
    rw [fadd_eq_fAddNonNaN (fIsNaN_of_finite hx) (fIsNaN_of_isInf hy) (by simp [hx']),
      fsub_eq_fAddNonNaN (fIsNaN_of_finite hx) (fIsNaN_of_isInf hy) (by simp [hx'])]
    exact ⟨fAddNonNaN_of_isInf_right hx hy, fAddNonNaN_of_isInf_right hx (by rwa [fIsInf_fNeg])⟩

/-! ## Product and quotient -/

section MulDiv

variable {x y : F}

theorem roundsTo_fmul (hx : fIsFinite x = true) (hy : fIsFinite y = true) :
    RoundsTo (fmul x y) (fSign x != fSign y) (fReal x * fReal y) (2 ^ 149) := by
  have hval : fmul x y = fPack (fSign x != fSign y) (roundMag (fUnits x * fUnits y) 298) := by
    simp [fmul, fIsNaN_of_finite hx, fIsNaN_of_finite hy, fIsInf_of_finite hx, fIsInf_of_finite hy]
  have hround := roundsTo_fPack_roundMag (m := fUnits x * fUnits y) (k := 298) (by norm_num)
    (Nat.two_pow_pos 149) (fSign x != fSign y) false fun _ h => h
  rw [hval, fReal_eq_signed x, fReal_eq_signed y, signed_mul_signed]
  rw [Bool.bne_false] at hround
  exact_mod_cast hround

/-- Which of two fractions is nearest to a pattern depends only on how they stand to the halfway points. -/
theorem NearestMag.congr {z n d n' d' : Nat} (h : NearestMag z n d)
    (hle : ∀ s, 2 * n ≤ s * d ↔ 2 * n' ≤ s * d') (hge : ∀ s, s * d ≤ 2 * n ↔ s * d' ≤ 2 * n') :
    NearestMag z n' d' := by
  refine ⟨?_, fun p hp => ?_⟩
  · have := h.le_mid
    have := hle (twiceMid z)
    have := hge (twiceMid z)
    omega
  · have := h.mid_le p hp
    have := hle (twiceMid p)
    have := hge (twiceMid p)
    omega

/-- With its sticky bit the quotient stands to every number of 320 fraction bits as the exact quotient does. -/
theorem quotientBits_compare {a b : Nat} (hb : 0 < b) (t : Nat) :
    (quotientBits a b ≤ 2 * t ↔ a * 2 ^ 320 ≤ t * b) ∧ (2 * t ≤ quotientBits a b ↔ t * b ≤ a * 2 ^ 320) := by
  unfold quotientBits
  generalize a * 2 ^ 320 = n
  have hge : t ≤ n / b ↔ t * b ≤ n := Nat.le_div_iff_mul_le hb
  have heq : t * b = n ↔ t = n / b ∧ n % b = 0 := by
    constructor
    · rintro rfl
      exact ⟨(Nat.mul_div_cancel t hb).symm, Nat.mul_mod_left t b⟩
    · rintro ⟨rfl, h⟩
      exact Nat.div_mul_cancel (Nat.dvd_of_mod_eq_zero h)
  have hlt : n / b < t ↔ n < t * b := Nat.div_lt_iff_lt_mul hb
  split <;> omega

theorem NearestMag.of_quotientBits {z a b : Nat} (hb : 0 < b) (h : NearestMag z (quotientBits a b) (2 ^ 172)) :
    NearestMag z (a * 2 ^ 149) b := by
  have hscale (s : Nat) : s * 2 ^ 170 * b = s * b * 2 ^ 170 := Nat.mul_right_comm _ _ _
  refine h.congr (fun s => ?_) (fun s => ?_) <;>
  · obtain ⟨hle, hge⟩ := quotientBits_compare (a := a) hb (s * 2 ^ 170)
    rw [hscale] at hle hge
    omega

theorem roundsTo_fdiv (hx : fIsFinite x = true) (hy : fIsFinite y = true) (h0 : fReal y ≠ 0) :
    RoundsTo (fdiv x y) (fSign x != fSign y) (fReal x * 2 ^ 149) (fReal y) := by
  have hpos : 0 < fUnits y := Nat.pos_of_ne_zero fun h => h0 (by rw [fReal_eq_signed, h, signed_zero])
  have hexact : fReal x * 2 ^ 149 = signed (fSign x) (fUnits x * 2 ^ 149) := by
    rw [fReal_eq_signed, ← Bool.bne_false (fSign x), ← signed_mul_signed, Bool.bne_false]
    rfl
  rw [fdiv_of_finite hx hy hpos, hexact, fReal_eq_signed y]
  exact roundsTo_fPack_roundMag (by norm_num) hpos _ _ fun _ h => h.of_quotientBits hpos

theorem fmul_of_isNaN (h : fIsNaN x = true ∨ fIsNaN y = true) : fmul x y = fNaN .mul x y := by
  rcases h with h | h <;> simp [fmul, h]

theorem fdiv_of_isNaN (h : fIsNaN x = true ∨ fIsNaN y = true) : fdiv x y = fNaN .div x y := by
  rcases h with h | h <;> simp [fdiv, h]

end MulDiv

/-- Settles O54: product and quotient of finite values are roundings of `m · 2^-k`; what is left are the cases of
`fmul` and `fdiv` in which an operand is 0, infinite or NaN. -/
theorem mulDivRoundToNearestEven : Obligations.MulDivRoundToNearestEven := by
  intro x y
  dsimp only
  simp only [ne_eq, fReal_eq_zero_iff]
  refine ⟨fun hx hy => ⟨roundsTo_fmul hx hy, fun h0 => roundsTo_fdiv hx hy (fReal_eq_zero_iff.not.2 h0), ?_, ?_⟩,
    fun hnan => ?_, fun hx hy => ?_, fun hx hy => ?_, fun hx hy => ?_⟩
  · intro hy0 hx0
    simp [fdiv, fIsNaN_of_finite hx, fIsNaN_of_finite hy, fIsInf_of_finite hx, hx0, hy0]
  · intro hy0 hx0
    simp [fdiv, hx0, hy0]
  · rw [fmul_of_isNaN hnan, fdiv_of_isNaN hnan]
    exact ⟨fIsQuietNaN_fNaN _ x y, fIsQuietNaN_fNaN _ x y⟩
  · have hx0 := fMag_ne_zero_of_isInf hx
    have hy0 := fMag_ne_zero_of_isInf hy
    simp [fmul, fdiv, hx, hy, fIsNaN_of_isInf hx, fIsNaN_of_isInf hy, hx0, hy0]
  · have hx0 := fMag_ne_zero_of_isInf hx
    have hy' := fIsInf_of_finite hy
    refine ⟨?_, fun h0 => ?_, fun h0 => ?_⟩ <;> simp [fmul, fdiv, fIsNaN_of_isInf hx, fIsNaN_of_finite hy, *]
  · have hy0 := fMag_ne_zero_of_isInf hy
    have hx' := fIsInf_of_finite hx
    refine ⟨?_, fun h0 => ?_, fun h0 => ?_⟩ <;> simp [fmul, fdiv, fIsNaN_of_finite hx, fIsNaN_of_isInf hy, *]

/-! ## Comparisons -/

theorem feq_iff {x y : F} (hx : fIsNaN x = false) (hy : fIsNaN y = false) :
    feq x y = true ↔ fReal x = fReal y := by
  have hxy := fKey_lt_iff_fReal_lt x y
  have hyx := fKey_lt_iff_fReal_lt y x
  simp only [feq, hx, hy, Bool.not_false, Bool.true_and, decide_eq_true_eq]
  omega

theorem fKey_eq_signed (x : F) : fKey x = signed (fSign x) (fMag x) := rfl

theorem signed_injective_of_ne_zero {s t : Bool} {a b : Nat} (h : signed s a = signed t b) (hb : b ≠ 0) :
    s = t ∧ a = b := by
  revert h
  cases s <;> cases t <;> simp [signed] <;> omega

/-- Only the two zeros stand at the same place. -/
theorem eq_of_fKey_eq {x y : F} (h : fKey x = fKey y) (h0 : fMag y ≠ 0) : x = y := by
  obtain ⟨hs, hmag⟩ := signed_injective_of_ne_zero h h0
  rw [← fPack_fSign_fMag x, hs, hmag, fPack_fSign_fMag]

theorem fKey_bounds {x : F} (hx : fIsNaN x = false) : -0x7F800000 ≤ fKey x ∧ fKey x ≤ 0x7F800000 := by
  have hmag : fMag x ≤ 0x7F800000 := Nat.le_of_not_lt (of_decide_eq_false hx)
  unfold fKey
  split <;> omega

/-- Settles O55: the keys stand in the order of the values, and those of the infinities at the two ends. -/
theorem comparisonsCompareValues : Obligations.ComparisonsCompareValues := by
  refine ⟨fun x y hx hy => ?_, fun x y hnan => ?_, fun x hx => ?_⟩
  · have nx := fIsNaN_of_finite hx
    have ny := fIsNaN_of_finite hy
    exact ⟨flt_iff nx ny, fle_iff nx ny, feq_iff nx ny⟩
  · rcases hnan with h | h <;> simp [flt, fle, feq, h]
  · have hpos : fIsNaN 0x7F800000#32 = false ∧ fKey 0x7F800000#32 = 0x7F800000 := by decide
    have hneg : fIsNaN 0xFF800000#32 = false ∧ fKey 0xFF800000#32 = -0x7F800000 := by decide
    have htop : x = 0x7F800000#32 ↔ fKey x = 0x7F800000 :=
      ⟨fun h => h ▸ hpos.2, fun h => eq_of_fKey_eq (h.trans hpos.2.symm) (by decide)⟩
    have hbottom : x = 0xFF800000#32 ↔ fKey x = -0x7F800000 :=
      ⟨fun h => h ▸ hneg.2, fun h => eq_of_fKey_eq (h.trans hneg.2.symm) (by decide)⟩
    obtain ⟨hlo, hhi⟩ := fKey_bounds hx
    dsimp only
    simp only [flt, fle, feq, hx, hpos, hneg, ne_eq, htop, hbottom, Bool.not_false, Bool.true_and, decide_eq_true_eq,
      decide_eq_false_iff_not, iff_self, true_and]
    omega

/-! ## Effective parameters (R93, R94) -/

/-- Settles O21: `clamp01` returns +0.0, 1.0, or a pattern whose key lies above 0 and not above that of 1.0. -/
theorem effectiveParametersInUnitRange : Obligations.EffectiveParametersInUnitRange := by
  intro c m
  unfold eff
  generalize fadd c m = x
  have hconst : fIsNaN fZero = false ∧ fIsNaN fOne = false ∧ fKey fZero = 0 := by decide
  obtain ⟨nzero, nunit, kzero⟩ := hconst
  unfold clamp01
  split_ifs with hnan hle hlt
  · decide
  · decide
  · decide
  · rw [Bool.not_eq_true] at hnan hle hlt
    rw [fle_or_flt nzero hnan, Bool.not_eq_false'] at hle
    have hpos := (fKey_lt_of_flt hle).2.2
    refine ⟨hnan, ?_, ?_, by rw [fle_or_flt nunit hnan, hlt, Bool.not_false]⟩
    · rw [kzero, fKey] at hpos
      split at hpos
      next => omega
      next hs => exact Bool.eq_false_of_not_eq_true hs
    · simp only [fle, nzero, hnan, Bool.not_false, Bool.true_and, decide_eq_true_eq]
      exact hpos.le

/-! ## QSIN at its ends (R97) -/

/-- Settles O58, by evaluation. -/
theorem qsinReferencePoints : Obligations.QsinReferencePoints := by
  unfold Obligations.QsinReferencePoints
  decide +kernel

/-- Settles O59: the series is capped at 1.0, a value that rounding keeps. -/
theorem qsinInUnitRange : Obligations.QsinInUnitRange := by
  intro u
  have hone : roundMag (2 ^ 405) 405 = 0x3F800000 := by decide +kernel
  obtain ⟨m, hq, hm⟩ : ∃ m, qsin u = fPack false (roundMag m 405) ∧ m ≤ 2 ^ 405 := ⟨_, rfl, Nat.min_le_right _ _⟩
  have hmag : roundMag m 405 ≤ 0x3F800000 := hone ▸ roundMag_mono (by norm_num) hm
  have hkey : fKey (qsin u) = roundMag m 405 := hq ▸ fKey_fPack_false (by omega)
  have hnan : fIsNaN (qsin u) = false := hq ▸ fIsNaN_fPack_roundMag false m 405
  have hconst : fIsNaN fZero = false ∧ fIsNaN fOne = false ∧ fKey fZero = 0 ∧ fKey fOne = 0x3F800000 := by decide
  obtain ⟨nzero, nunit, kzero, kone⟩ := hconst
  simp only [fle, hnan, hkey, nzero, nunit, kzero, kone, Bool.not_false, Bool.true_and, decide_eq_true_eq]
  omega

/-! ## Exact results -/

theorem fReal_fZero : fReal fZero = 0 := by decide +kernel

/-- At most 24 significant bits at an exponent in range are the value of a finite pattern. -/
theorem exists_magUnits_eq {m e : Nat} (hm : m ≤ 2 ^ 24) : ∃ w, magUnits w = m * 2 ^ e := by
  induction e generalizing m with
  | zero => exact ⟨0 * 2 ^ 23 + m, magUnits_exponent_significand hm (.inl rfl)⟩
  | succ e ih =>
    rcases Nat.lt_or_ge m (2 ^ 23) with hlow | hnormal
    · obtain ⟨w, hw⟩ := ih (m := m * 2) (by omega)
      exact ⟨w, by rw [hw, Nat.pow_succ', Nat.mul_assoc]⟩
    · exact ⟨(e + 1) * 2 ^ 23 + m, magUnits_exponent_significand hm (.inr hnormal)⟩

theorem magUnits_largest : magUnits (fInfMag - 1) = (2 ^ 24 - 1) * 2 ^ 253 := by decide +kernel

theorem exists_fReal_eq {n : Int} {e : Nat} (hn : n.natAbs ≤ 2 ^ 24) (he : e ≤ 252) :
    ∃ v, fIsFinite v = true ∧ fReal v = n * 2 ^ e := by
  obtain ⟨w, hw⟩ := exists_magUnits_eq (e := e) hn
  have hle : magUnits w < magUnits fInfMag := by
    calc magUnits w ≤ 2 ^ 24 * 2 ^ 252 := hw ▸ Nat.mul_le_mul hn (Nat.pow_le_pow_right Nat.two_pos he)
      _ < (2 ^ 24 - 1) * 2 ^ 253 := by norm_num
      _ < magUnits fInfMag := magUnits_largest ▸ magUnits_strictMono (by decide)
  have hfin := magUnits_strictMono.lt_iff_lt.1 hle
  have hmag : w < 2 ^ 31 := hfin.trans (by norm_num [fInfMag])
  refine ⟨fPack (decide (n < 0)) w, (fIsFinite_fPack _ hmag).2 hfin, ?_⟩
  have hsigned := signed_mul_signed (decide (n < 0)) false n.natAbs (2 ^ e)
  rw [signed_natAbs, Bool.bne_false, ← hw] at hsigned
  rw [fReal_eq_signed, fSign_fPack _ hmag, fUnits_eq_magUnits, fMag_fPack _ hmag, ← hsigned]
  simp [signed]

/-- Rounding keeps a value that is one of a finite pattern. -/
theorem RoundsTo.of_exact {z v : F} {s : Bool} {exact scale : Int} (h : RoundsTo z s exact scale)
    (hv : fIsFinite v = true) (h0 : scale ≠ 0) (hex : fReal v * scale = exact) :
    fIsFinite z = true ∧ fReal z = fReal v := by
  obtain ⟨-, hfin, -, hnear⟩ := h
  have hmag : magUnits (fMag v) ≤ (2 ^ 24 - 1) * 2 ^ 253 := magUnits_largest ▸
    magUnits_strictMono.monotone (Nat.le_sub_one_of_lt (fIsFinite_iff.1 hv))
  have hbound : |fReal v| < 2 ^ 252 * (2 ^ 25 - 1) := by
    rw [Int.abs_eq_natAbs, natAbs_fReal]
    omega
  have hz : fIsFinite z = true := by
    rw [hfin, ← hex, abs_mul]
    exact mul_lt_mul_of_pos_right hbound (abs_pos.2 h0)
  have hdist := (hnear hz v hv).1
  dsimp only at hdist
  rw [hex, sub_self, abs_zero, abs_nonpos_iff, sub_eq_zero, ← hex] at hdist
  exact ⟨hz, mul_right_cancel₀ h0 hdist⟩

/-! ## Conversions (R91, R102 to R104) -/

theorem roundsTo_fOfInt (n : Int) : RoundsTo (fOfInt n) (decide (n < 0)) (n * 2 ^ 149) 1 := by
  have habs : (n * 2 ^ 149).natAbs = n.natAbs * 2 ^ 149 := Int.natAbs_mul n (2 ^ 149)
  have hsigned := signed_natAbs (n * 2 ^ 149)
  rw [show decide (n * 2 ^ 149 < 0) = decide (n < 0) from decide_eq_decide.2 (by omega)] at hsigned
  rw [fOfInt, ← habs]
  exact roundsTo_roundMag_natAbs hsigned.symm

theorem fReal_i16ToF {n : Int} (hn : n.natAbs ≤ 2 ^ 24) :
    fIsFinite (i16ToF n) = true ∧ fReal (i16ToF n) = n * 2 ^ 149 := by
  obtain ⟨v, hv, hval⟩ := exists_fReal_eq (e := 149) hn (by norm_num)
  rw [← hval]
  exact (roundsTo_fOfInt n).of_exact hv one_ne_zero (by rw [mul_one, hval])

theorem fReal_q2f {n : Int} (hn : n.natAbs ≤ 2 ^ 24) :
    fIsFinite (q2f n) = true ∧ fReal (q2f n) * 32768 = n * 2 ^ 149 := by
  obtain ⟨hfin, hint⟩ := fReal_i16ToF hn
  obtain ⟨v, hv, hval⟩ := exists_fReal_eq (e := 134) hn (by norm_num)
  have hscale : fReal f32768 = 2 ^ 164 := by decide +kernel
  have h0 : fReal f32768 ≠ 0 := by rw [hscale]; norm_num
  obtain ⟨hqfin, hq⟩ := (roundsTo_fdiv hfin (by decide) h0).of_exact hv h0 (by rw [hval, hint, hscale]; ring)
  exact ⟨hqfin, by rw [q2f, hq, hval]; ring⟩

theorem truncScaled_eq_tdiv (x : F) (bits : Nat) : truncScaled x bits = (fReal x).tdiv (2 ^ bits) := by
  unfold truncScaled fReal
  cases fSign x <;> simp [Int.neg_tdiv]

theorem toSat16_of_finite {x : F} (hx : fIsFinite x = true) (k : Nat) :
    toSat16 x k = sat16 ((fReal x).tdiv (2 ^ (149 - k))) := by
  simp [toSat16, fIsNaN_of_finite hx, fIsInf_of_finite hx, truncScaled_eq_tdiv]

theorem f2q_of_finite {x : F} (hx : fIsFinite x = true) :
    f2q x = sat16 ((fReal x * 32768).tdiv (2 ^ 149)) := by
  rw [f2q, toSat16_of_finite hx]
  exact congrArg sat16 (Int.mul_tdiv_mul_of_pos_left (fReal x) (2 ^ 134) (by norm_num : (0 : Int) < 32768)).symm

theorem f2i_of_finite {x : F} (hx : fIsFinite x = true) : f2i x = sat16 ((fReal x).tdiv (2 ^ 149)) :=
  toSat16_of_finite hx 0

theorem sat16_of_mem {n : Int} (hlo : -32768 ≤ n) (hhi : n ≤ 32767) : sat16 n = n := by
  unfold sat16
  omega

/-- Settles O56: a 16-bit integer and its quotient by 2^15 have at most 16 significant bits, so the roundings of the
conversions keep them; F2Q and F2I cut off the fraction of the exact value. -/
theorem sampleConversionsAreExact : Obligations.SampleConversionsAreExact := by
  refine ⟨fun n hlo hhi => ?_, fun n _ => ?_, fun x hx => ⟨f2q_of_finite hx, f2i_of_finite hx⟩, ?_⟩
  · obtain ⟨hifin, hi⟩ := fReal_i16ToF (n := n) (by omega)
    obtain ⟨hqfin, hq⟩ := fReal_q2f (n := n) (by omega)
    have hcancel : (n * 2 ^ 149).tdiv (2 ^ 149) = n := Int.mul_tdiv_cancel n (by norm_num)
    rw [f2q_of_finite hqfin, f2i_of_finite hifin, hi, hq, hcancel, sat16_of_mem hlo hhi]
    exact ⟨rfl, rfl, rfl, rfl⟩
  · have hround := roundsTo_fOfInt n
    rwa [decide_eq_false (Int.natCast_nonneg n).not_gt] at hround
  · refine ⟨by decide, by decide, by decide, by decide, fun x hx => ?_⟩
    simp [f2q, f2i, toSat16, hx, Config.f2qNan]

/-! ## Blends (R95 to R99) -/

section Blend

variable {x y v : F}

theorem fSign_eq_false_of_ne_negZero (hv : v ≠ 0x80000000#32) (h0 : fReal v = 0) : fSign v = false := by
  by_contra hs
  refine hv ?_
  rw [← fPack_fSign_fMag v, Bool.eq_true_of_not_eq_false hs, fReal_eq_zero_iff.1 h0]
  rfl

theorem fSign_eq_decide (h0 : fReal v ≠ 0) : fSign v = decide (fReal v < 0) := by
  rw [fReal_eq_signed] at h0 ⊢
  cases fSign v <;> simp [signed] at h0 ⊢
  omega

/-- A sum whose exact value is that of `v` is `v`, bit for bit away from −0.0. -/
theorem fadd_eq_of_exact (hx : fIsFinite x = true) (hy : fIsFinite y = true) (hv : fIsFinite v = true)
    (hsum : fReal x + fReal y = fReal v) (hne : v ≠ 0x80000000#32)
    (hs : fReal v = 0 → (fSign x && fSign y) = false) : fadd x y = v := by
  have hround := roundsTo_fadd hx hy
  rw [hsum] at hround
  refine eq_of_fReal_eq ?_ (hround.of_exact hv one_ne_zero (mul_one _)).2
  rw [hround.1]
  split
  next h0 => rw [hs h0, fSign_eq_false_of_ne_negZero hne h0]
  next h0 => rw [fSign_eq_decide h0]

theorem fadd_zero_right (hx : fIsFinite x = true) (hne : x ≠ 0x80000000#32)
    (hy : fIsFinite y = true ∧ fReal y = 0) : fadd x y = x := by
  refine fadd_eq_of_exact hx hy.1 hx (by rw [hy.2, add_zero]) hne fun h0 => ?_
  rw [fSign_eq_false_of_ne_negZero hne h0, Bool.false_and]

theorem fadd_zero_left (hx : fIsFinite x = true) (hne : x ≠ 0x80000000#32)
    (hy : fIsFinite y = true ∧ fReal y = 0) : fadd y x = x := by
  refine fadd_eq_of_exact hy.1 hx hx (by rw [hy.2, zero_add]) hne fun h0 => ?_
  rw [fSign_eq_false_of_ne_negZero hne h0, Bool.and_false]

theorem fmul_one (hx : fIsFinite x = true) : fmul x fOne = x := by
  have hround := roundsTo_fmul hx (by decide : fIsFinite fOne = true)
  rw [fReal_fOne] at hround
  refine eq_of_fReal_eq ?_ (hround.of_exact hx (by norm_num) rfl).2
  rw [hround.1, show fSign fOne = false by decide, Bool.bne_false]

theorem fmul_eq_zero (hx : fIsFinite x = true) (hy : fIsFinite y = true) (h : fReal x = 0 ∨ fReal y = 0) :
    fIsFinite (fmul x y) = true ∧ fReal (fmul x y) = 0 := by
  have hkeep := (roundsTo_fmul hx hy).of_exact (v := fZero) (by decide) (by norm_num)
    (by rw [fReal_fZero, zero_mul, mul_eq_zero.2 h])
  rwa [fReal_fZero] at hkeep

theorem fsub_self (hx : fIsFinite x = true) : fIsFinite (fsub x x) = true ∧ fReal (fsub x x) = 0 := by
  have hkeep := (roundsTo_fsub hx hx).of_exact (v := fZero) (by decide) one_ne_zero (by rw [fReal_fZero, zero_mul, sub_self])
  rwa [fReal_fZero] at hkeep

end Blend

/-- Settles O39: a product with 1.0 is exact, one with 0 adds nothing, and QSIN is exact at both ends. -/
theorem blendEndPointsAreExact : Obligations.BlendEndPointsAreExact := by
  intro a b ha hb
  obtain ⟨qzero, qone, -⟩ := qsinReferencePoints
  have hends : fsub fOne fZero = fOne ∧ fsub fOne fOne = fZero := by decide +kernel
  obtain ⟨sone, szero⟩ := hends
  have zfin : fIsFinite fZero = true := by decide
  refine ⟨fun hne => ?_, fun hne => ?_, fun hd => ⟨fun hne => ?_, ?_, fun hexact => ?_⟩, fun t ht hne => ?_⟩
  · rw [xfade, sone, qone, qzero, fmul_one ha]
    exact fadd_zero_right ha hne (fmul_eq_zero hb zfin (.inr fReal_fZero))
  · rw [xfade, szero, qone, qzero, fmul_one hb]
    exact fadd_zero_left hb hne (fmul_eq_zero ha zfin (.inr fReal_fZero))
  · exact fadd_zero_right ha hne (fmul_eq_zero hd zfin (.inr fReal_fZero))
  · rw [lerp, fmul_one hd]
  · rw [lerp, fmul_one hd]
    exact ((roundsTo_fadd ha hd).of_exact hb one_ne_zero (by omega)).2
  · obtain ⟨hfin, hval⟩ := fsub_self ha
    exact fadd_zero_right ha hne (fmul_eq_zero hfin ht (.inl hval))

/-! ## The tails of the sine series -/

section SineSeries

open Nat (factorial)

/-- The terms of the tail behind 1: `(−w)^j · (2k+1)! / (2k+1+2j)!`. -/
noncomputable def sinTailTerm (w : ℝ) (k j : ℕ) : ℝ :=
  (-w) ^ j * ((factorial (2 * k + 1) : ℝ) / factorial (2 * k + 1 + 2 * j))

/-- What the k-th Horner step of the sine series in `w = θ²` starts from, if the series is not cut off. -/
noncomputable def sinTail (w : ℝ) (k : ℕ) : ℝ := ∑' j, sinTailTerm w k j

theorem abs_sinTailTerm_le {w : ℝ} (h0 : 0 ≤ w) (hw : w ≤ 5 / 2) (k j : ℕ) : ‖sinTailTerm w k j‖ ≤ (5 / 8) ^ j := by
  have hfact : (factorial (2 * k + 1) : ℝ) * (4 : ℝ) ^ j ≤ factorial (2 * k + 1 + 2 * j) := by
    have hpow : 4 ^ j ≤ (2 * k + 1 + 1) ^ (2 * j) := by
      rw [pow_mul]
      exact Nat.pow_le_pow_left (Nat.pow_le_pow_left (by omega : 2 ≤ 2 * k + 1 + 1) 2) j
    exact_mod_cast (Nat.mul_le_mul_left _ hpow).trans Nat.factorial_mul_pow_le_factorial
  have hratio : (factorial (2 * k + 1) : ℝ) / factorial (2 * k + 1 + 2 * j) ≤ (1 / 4) ^ j := by
    rw [div_le_iff₀ (by positivity), one_div, inv_pow, inv_mul_eq_div, le_div_iff₀ (by positivity)]
    exact hfact
  calc ‖sinTailTerm w k j‖
      = w ^ j * ((factorial (2 * k + 1) : ℝ) / factorial (2 * k + 1 + 2 * j)) := by
        rw [sinTailTerm, norm_mul, norm_pow, norm_neg, Real.norm_of_nonneg h0, Real.norm_of_nonneg (by positivity)]
    _ ≤ (5 / 2) ^ j * (1 / 4) ^ j := by gcongr
    _ = (5 / 8) ^ j := by rw [← mul_pow]; norm_num

theorem hasSum_geometric_five_eighths : HasSum (fun j => (5 / 8 : ℝ) ^ j) (8 / 3) := by
  have h := hasSum_geometric_of_lt_one (r := (5 / 8 : ℝ)) (by norm_num) (by norm_num)
  norm_num at h ⊢
  exact h

theorem summable_sinTailTerm {w : ℝ} (h0 : 0 ≤ w) (hw : w ≤ 5 / 2) (k : ℕ) : Summable (sinTailTerm w k) :=
  .of_norm_bounded hasSum_geometric_five_eighths.summable (abs_sinTailTerm_le h0 hw k)

theorem abs_sinTail_le {w : ℝ} (h0 : 0 ≤ w) (hw : w ≤ 5 / 2) (k : ℕ) : |sinTail w k| ≤ 8 / 3 :=
  tsum_of_norm_bounded hasSum_geometric_five_eighths (abs_sinTailTerm_le h0 hw k)

theorem sinTailTerm_succ (w : ℝ) (k j : ℕ) :
    sinTailTerm w k (j + 1) = -(w / (2 * (k + 1) * (2 * (k + 1) + 1))) * sinTailTerm w (k + 1) j := by
  have hfact : (factorial (2 * (k + 1) + 1) : ℝ) =
      (2 * (k + 1) + 1) * ((2 * (k + 1)) * factorial (2 * k + 1)) := by
    rw [show 2 * (k + 1) + 1 = (2 * k + 1) + 1 + 1 by ring, Nat.factorial_succ, Nat.factorial_succ]
    push_cast
    ring
  have hidx : 2 * k + 1 + 2 * (j + 1) = 2 * (k + 1) + 1 + 2 * j := by ring
  have hk : (2 * ((k : ℝ) + 1) * (2 * (k + 1) + 1)) ≠ 0 := by positivity
  rw [sinTailTerm, sinTailTerm, hidx, hfact, pow_succ]
  field_simp

/-- Horner's step takes each tail to the one before it. -/
theorem sinTail_eq {w : ℝ} (h0 : 0 ≤ w) (hw : w ≤ 5 / 2) (k : ℕ) :
    sinTail w k = 1 - w / (2 * (k + 1) * (2 * (k + 1) + 1)) * sinTail w (k + 1) := by
  have hfirst : sinTailTerm w k 0 = 1 := by
    rw [sinTailTerm, pow_zero, one_mul]
    exact div_self (by positivity)
  rw [sinTail, (summable_sinTailTerm h0 hw k).tsum_eq_zero_add, hfirst]
  simp only [sinTailTerm_succ]
  rw [tsum_mul_left, sinTail, neg_mul, sub_eq_add_neg]

/-- The whole series. -/
theorem mul_sinTail_zero {θ : ℝ} (hw : θ ^ 2 ≤ 5 / 2) : θ * sinTail (θ ^ 2) 0 = Real.sin θ := by
  have hterm (j : ℕ) : θ * sinTailTerm (θ ^ 2) 0 j = (-1) ^ j * θ ^ (2 * j + 1) / factorial (2 * j + 1) := by
    rw [sinTailTerm, neg_pow, ← pow_mul, show 2 * 0 + 1 + 2 * j = 2 * j + 1 by ring, factorial, factorial, Nat.cast_one]
    ring
  have hsum := (summable_sinTailTerm (sq_nonneg θ) hw 0).hasSum.mul_left θ
  simp only [hterm] at hsum
  exact hsum.unique (Real.hasSum_sin θ)

end SineSeries

/-! ## The series of `qsin` at scale 2^256 -/

/-- The value of a number of units of 2^-256. -/
noncomputable def fixed (n : ℕ) : ℝ := n / 2 ^ 256

theorem fixed_nonneg (n : ℕ) : 0 ≤ fixed n := by
  unfold fixed
  positivity

theorem fixed_le_iff {n : ℕ} (c : ℕ) : fixed n ≤ c ↔ n ≤ c * 2 ^ 256 := by
  rw [fixed, div_le_iff₀ (by positivity)]
  exact_mod_cast Iff.rfl

theorem fixed_mul (a b : ℕ) : fixed (a * b) / (2 ^ 256 : ℕ) = fixed a * fixed b := by
  unfold fixed
  push_cast
  ring

/-- An integer division loses less than one unit. -/
theorem abs_fixed_div_sub_le (a b : ℕ) : |fixed (a / b) - fixed a / b| ≤ 1 / 2 ^ 256 := by
  have hle : ((a / b : ℕ) : ℝ) ≤ a / b := Nat.cast_div_le
  have hgt : (a : ℝ) / b - 1 < (a / b : ℕ) := by
    rw [← Nat.floor_div_eq_div (K := ℝ) a b]
    exact Nat.sub_one_lt_floor _
  have heq : fixed (a / b) - fixed a / b = (((a / b : ℕ) : ℝ) - a / b) / 2 ^ 256 := by
    unfold fixed
    ring
  rw [heq, abs_div, abs_of_pos (by positivity : (0 : ℝ) < 2 ^ 256)]
  gcongr
  rw [abs_le]
  constructor <;> linarith

theorem abs_fixed_mul_div_sub_le (a b : ℕ) : |fixed (a * b / 2 ^ 256) - fixed a * fixed b| ≤ 1 / 2 ^ 256 :=
  fixed_mul a b ▸ abs_fixed_div_sub_le (a * b) (2 ^ 256)

theorem sinStep_le (y t k : ℕ) : sinStep y t k ≤ 2 ^ 256 := Nat.sub_le _ _

theorem sinSeries_le (y K : ℕ) {t : ℕ} (ht : t ≤ 2 ^ 256) : sinSeries y K t ≤ 2 ^ 256 := by
  induction K generalizing t with
  | zero => exact ht
  | succ K ih => exact ih (sinStep_le y t (K + 1))

/-- One Horner step at scale 2^256 is the exact one but for the two divisions. -/
theorem abs_fixed_sinStep_sub_le {y t : ℕ} (hy : y ≤ 3 * 2 ^ 256) (ht : t ≤ 2 ^ 256) (k : ℕ) :
    |fixed (sinStep y t (k + 1)) - (1 - fixed y * fixed t / (2 * (k + 1) * (2 * (k + 1) + 1)))| ≤ 2 / 2 ^ 256 := by
  set D := 2 * (k + 1) * (2 * (k + 1) + 1) with hD
  have hD6 : 6 ≤ D := by nlinarith
  have hp : y * t / 2 ^ 256 ≤ 3 * 2 ^ 256 := Nat.div_le_of_le_mul (by nlinarith)
  have hq : y * t / 2 ^ 256 / D ≤ 2 ^ 256 := Nat.div_le_of_le_mul (by nlinarith)
  have hstep : fixed (sinStep y t (k + 1)) = 1 - fixed (y * t / 2 ^ 256 / D) := by
    rw [sinStep, ← hD, fixed, fixed, Nat.cast_sub hq, sub_div]
    norm_num
  have hDreal : (2 * ((k : ℝ) + 1) * (2 * (k + 1) + 1)) = (D : ℝ) := by
    rw [hD]
    push_cast
    ring
  have hD1 : (1 : ℝ) ≤ D := by exact_mod_cast (by omega : 1 ≤ D)
  have hdiv := abs_fixed_div_sub_le (y * t / 2 ^ 256) D
  have hmul : |fixed (y * t / 2 ^ 256) / D - fixed y * fixed t / D| ≤ 1 / 2 ^ 256 := by
    rw [← sub_div, abs_div, abs_of_pos (zero_lt_one.trans_le hD1)]
    exact (div_le_self (abs_nonneg _) hD1).trans (abs_fixed_mul_div_sub_le y t)
  rw [hstep, hDreal, sub_sub_sub_cancel_left, abs_sub_comm]
  calc _ ≤ 1 / 2 ^ 256 + 1 / 2 ^ 256 := (abs_sub_le _ _ _).trans (add_le_add hdiv hmul)
    _ = 2 / 2 ^ 256 := by ring

/-- Bounding a difference of products by the differences of their factors. -/
theorem abs_mul_sub_mul_le {a b c d p q A B : ℝ} (hac : |a - c| ≤ p) (hbd : |b - d| ≤ q) (hb : |b| ≤ B) (hc : |c| ≤ A) :
    |a * b - c * d| ≤ p * B + A * q := by
  have hp := (abs_nonneg _).trans hac
  have hA := (abs_nonneg _).trans hc
  calc |a * b - c * d| = |(a - c) * b + c * (b - d)| := by ring_nf
    _ ≤ |a - c| * |b| + |c| * |b - d| := by
      rw [← abs_mul, ← abs_mul]
      exact abs_add_le _ _
    _ ≤ p * B + A * q := by gcongr

/-- A Horner step halves the distance to the tails, up to what the error of `w` and the divisions add. -/
theorem abs_fixed_sinStep_sub_sinTail_le {y t k : ℕ} {w d : ℝ} (h0 : 0 ≤ w) (hw : w ≤ 5 / 2)
    (hy : |fixed y - w| ≤ 1 / 2 ^ 40) (ht : t ≤ 2 ^ 256) (hd : |fixed t - sinTail w (k + 1)| ≤ 1 / 2 ^ 40 + d) :
    |fixed (sinStep y t (k + 1)) - sinTail w k| ≤ 1 / 2 ^ 40 + d / 2 := by
  have hy3 : y ≤ 3 * 2 ^ 256 := by
    refine (fixed_le_iff 3).1 ?_
    have := (abs_le.1 hy).2
    norm_num at this ⊢
    linarith
  have ht1 : fixed t ≤ 1 := by exact_mod_cast (fixed_le_iff 1).2 (by rwa [one_mul])
  have hD : (6 : ℝ) ≤ 2 * (k + 1) * (2 * (k + 1) + 1) := by nlinarith [Nat.cast_nonneg (α := ℝ) k]
  have hround := abs_fixed_sinStep_sub_le hy3 ht k
  rw [sinTail_eq h0 hw k]
  generalize (2 * ((k : ℝ) + 1) * (2 * (k + 1) + 1)) = D at hD hround ⊢
  have hprod : |fixed y * fixed t - w * sinTail w (k + 1)| ≤ 1 / 2 ^ 40 * 1 + 5 / 2 * (1 / 2 ^ 40 + d) :=
    abs_mul_sub_mul_le hy hd (by rwa [abs_of_nonneg (fixed_nonneg t)]) (by rwa [abs_of_nonneg h0])
  have hquot : |fixed y * fixed t / D - w / D * sinTail w (k + 1)| ≤
      (1 / 2 ^ 40 * 1 + 5 / 2 * (1 / 2 ^ 40 + d)) / 6 := by
    rw [div_mul_eq_mul_div, ← sub_div, abs_div, abs_of_pos (by linarith : 0 < D)]
    have := (abs_nonneg _).trans hprod
    gcongr
  have hd0 : 0 ≤ 1 / 2 ^ 40 + d := (abs_nonneg _).trans hd
  rw [abs_le] at hround hquot ⊢
  norm_num at hround hquot hd0 ⊢
  constructor <;> linarith [hround.1, hround.2, hquot.1, hquot.2]

/-- The series at scale 2^256 comes as close to the whole series as its innermost value, halved once a term. -/
theorem abs_fixed_sinSeries_sub_sinTail_le {y : ℕ} {w : ℝ} (h0 : 0 ≤ w) (hw : w ≤ 5 / 2)
    (hy : |fixed y - w| ≤ 1 / 2 ^ 40) (K : ℕ) {t : ℕ} {d : ℝ} (ht : t ≤ 2 ^ 256)
    (hd : |fixed t - sinTail w K| ≤ 1 / 2 ^ 40 + d) :
    |fixed (sinSeries y K t) - sinTail w 0| ≤ 1 / 2 ^ 40 + d / 2 ^ K := by
  induction K generalizing t d with
  | zero => simpa [sinSeries] using hd
  | succ K ih =>
    have hstep := ih (sinStep_le y t (K + 1)) (abs_fixed_sinStep_sub_sinTail_le h0 hw hy ht hd)
    rwa [div_div, ← pow_succ'] at hstep

/-! ## QSIN is the sine of a quarter turn (R97) -/

/-- The angle of a position, in radians. -/
noncomputable def quarterTurn (n : ℕ) : ℝ := n / 2 ^ 149 * (Real.pi / 2)

theorem abs_fixed_halfPi_sub_le : |fixed halfPi - Real.pi / 2| ≤ 1 / 2 ^ 60 := by
  have hlo := Real.pi_gt_d20
  have hhi := Real.pi_lt_d20
  have hhalf : 1.570796326794896619230 ≤ fixed halfPi ∧ fixed halfPi ≤ 1.570796326794896619235 := by
    unfold fixed halfPi
    constructor <;> norm_num
  rw [abs_le]
  constructor <;> norm_num at hlo hhi hhalf ⊢ <;> linarith

theorem abs_position_le_one {n : ℕ} (hn : n ≤ 2 ^ 149) : |(n : ℝ) / 2 ^ 149| ≤ 1 := by
  rw [abs_of_nonneg (by positivity), div_le_one (by positivity)]
  exact_mod_cast hn

theorem quarterTurn_mem {n : ℕ} (hn : n ≤ 2 ^ 149) : 0 ≤ quarterTurn n ∧ quarterTurn n ≤ 1.5708 := by
  have hu := (le_abs_self _).trans (abs_position_le_one hn)
  have hpi := Real.pi_lt_d6
  refine ⟨by unfold quarterTurn; positivity, ?_⟩
  calc quarterTurn n ≤ 1 * (3.141593 / 2) := by
        unfold quarterTurn
        gcongr
    _ ≤ 1.5708 := by norm_num

theorem abs_fixed_angle_sub_le {n : ℕ} (hn : n ≤ 2 ^ 149) :
    |fixed (n * halfPi / 2 ^ 149) - quarterTurn n| ≤ 1 / 2 ^ 59 := by
  have hu := abs_position_le_one hn
  have hdiv := abs_fixed_div_sub_le (n * halfPi) (2 ^ 149)
  have hprod : fixed (n * halfPi) / (2 ^ 149 : ℕ) = n / 2 ^ 149 * fixed halfPi := by
    unfold fixed
    push_cast
    ring
  have hpi : |(n : ℝ) / 2 ^ 149 * fixed halfPi - quarterTurn n| ≤ 1 / 2 ^ 60 := by
    rw [quarterTurn, ← mul_sub, abs_mul]
    exact (mul_le_of_le_one_left (abs_nonneg _) hu).trans abs_fixed_halfPi_sub_le
  rw [hprod] at hdiv
  calc _ ≤ 1 / 2 ^ 256 + 1 / 2 ^ 60 := (abs_sub_le _ _ _).trans (add_le_add hdiv hpi)
    _ ≤ 1 / 2 ^ 59 := by norm_num

/-- The square of the angle, θ², as `qsin` computes it. -/
def squaredAngle (n : ℕ) : ℕ := (n * halfPi / 2 ^ 149) * (n * halfPi / 2 ^ 149) / 2 ^ 256

/-- What `qsin` multiplies the position by: (π/2)·sin(θ)/θ. -/
def sinSlope (n : ℕ) : ℕ := halfPi * sinSeries (squaredAngle n) 32 (2 ^ 256) / 2 ^ 256

theorem abs_fixed_squaredAngle_sub_le {n : ℕ} (hn : n ≤ 2 ^ 149) :
    |fixed (squaredAngle n) - quarterTurn n ^ 2| ≤ 1 / 2 ^ 40 := by
  obtain ⟨h0, hθ⟩ := quarterTurn_mem hn
  have hx := abs_fixed_angle_sub_le hn
  unfold squaredAngle
  generalize n * halfPi / 2 ^ 149 = x at hx ⊢
  generalize quarterTurn n = θ at h0 hθ hx ⊢
  have hmul := abs_fixed_mul_div_sub_le x x
  have hsum : |fixed x + θ| ≤ 4 := by
    rw [abs_le] at hx ⊢
    norm_num at hx hθ ⊢
    constructor <;> linarith [hx.1, hx.2]
  have hsq : |fixed x * fixed x - θ ^ 2| ≤ 1 / 2 ^ 59 * 4 := by
    rw [show fixed x * fixed x - θ ^ 2 = (fixed x - θ) * (fixed x + θ) by ring, abs_mul]
    gcongr
  calc _ ≤ 1 / 2 ^ 256 + 1 / 2 ^ 59 * 4 := (abs_sub_le _ _ _).trans (add_le_add hmul hsq)
    _ ≤ 1 / 2 ^ 40 := by norm_num

theorem qsin_eq (u : F) : qsin u = fPack false (roundMag (min (fUnits u * sinSlope (fUnits u)) (2 ^ 405)) 405) := rfl

theorem abs_fixed_sinSlope_sub_le {n : ℕ} (hn : n ≤ 2 ^ 149) :
    |fixed (sinSlope n) - Real.pi / 2 * sinTail (quarterTurn n ^ 2) 0| ≤ 1 / 2 ^ 28 := by
  obtain ⟨h0, hθ⟩ := quarterTurn_mem hn
  have hw : quarterTurn n ^ 2 ≤ 5 / 2 := by nlinarith
  have hone : fixed (2 ^ 256) = 1 := by norm_num [fixed]
  have hstart : |fixed (2 ^ 256) - sinTail (quarterTurn n ^ 2) 32| ≤ 1 / 2 ^ 40 + 4 := by
    have := abs_le.1 (abs_sinTail_le (sq_nonneg _) hw 32)
    rw [hone, abs_le]
    norm_num
    constructor <;> linarith [this.1, this.2]
  have hseries := abs_fixed_sinSeries_sub_sinTail_le (sq_nonneg _) hw
    (abs_fixed_squaredAngle_sub_le hn) 32 le_rfl hstart
  have hseries1 : |fixed (sinSeries (squaredAngle n) 32 (2 ^ 256))| ≤ 1 := by
    rw [abs_of_nonneg (fixed_nonneg _)]
    exact_mod_cast (fixed_le_iff 1).2 (by rw [one_mul]; exact sinSeries_le _ 32 le_rfl)
  have hpi : |Real.pi / 2| ≤ 2 := by
    rw [abs_of_pos Real.pi_div_two_pos]
    linarith [Real.pi_le_four]
  have hprod := abs_mul_sub_mul_le abs_fixed_halfPi_sub_le hseries hseries1 hpi
  calc _ ≤ 1 / 2 ^ 256 + (1 / 2 ^ 60 * 1 + 2 * (1 / 2 ^ 40 + 4 / 2 ^ 32)) :=
        (abs_sub_le _ _ _).trans (add_le_add (abs_fixed_mul_div_sub_le _ _) hprod)
    _ ≤ 1 / 2 ^ 28 := by norm_num

/-- Before it is rounded, the value of `qsin` is the sine to within 2^-28. -/
theorem abs_min_mul_sinSlope_sub_sin_le {n : ℕ} (hn : n ≤ 2 ^ 149) :
    |((min (n * sinSlope n) (2 ^ 405) : ℕ) : ℝ) / 2 ^ 405 - Real.sin (quarterTurn n)| ≤ 1 / 2 ^ 28 := by
  have hu := abs_position_le_one hn
  obtain ⟨h0, hθ⟩ := quarterTurn_mem hn
  have hsin : Real.sin (quarterTurn n) = n / 2 ^ 149 * (Real.pi / 2 * sinTail (quarterTurn n ^ 2) 0) := by
    rw [← mul_sinTail_zero (by nlinarith : quarterTurn n ^ 2 ≤ 5 / 2), ← mul_assoc]
    rfl
  have hfull : |((n * sinSlope n : ℕ) : ℝ) / 2 ^ 405 - Real.sin (quarterTurn n)| ≤ 1 / 2 ^ 28 := by
    have hval : ((n * sinSlope n : ℕ) : ℝ) / 2 ^ 405 = n / 2 ^ 149 * fixed (sinSlope n) := by
      rw [fixed, div_mul_div_comm, ← pow_add, Nat.cast_mul]
    rw [hsin, hval, ← mul_sub, abs_mul]
    exact (mul_le_of_le_one_left (abs_nonneg _) hu).trans (abs_fixed_sinSlope_sub_le hn)
  have hcap : ((min (n * sinSlope n) (2 ^ 405) : ℕ) : ℝ) / 2 ^ 405 = min (((n * sinSlope n : ℕ) : ℝ) / 2 ^ 405) 1 := by
    rw [Nat.cast_min, ← min_div_div_right (by positivity), Nat.cast_pow, Nat.cast_two, div_self (by positivity)]
  calc _ = |min (((n * sinSlope n : ℕ) : ℝ) / 2 ^ 405) 1 - min (Real.sin (quarterTurn n)) 1| := by
        rw [hcap, min_eq_left (Real.sin_le_one _)]
    _ ≤ max |((n * sinSlope n : ℕ) : ℝ) / 2 ^ 405 - Real.sin (quarterTurn n)| |1 - 1| := abs_min_sub_min_le_max _ _ _ _
    _ ≤ 1 / 2 ^ 28 := max_le hfull (by norm_num)

/-- Up to 1.0, rounding moves a value by at most 2^-25. -/
theorem abs_fReal_roundMag_sub_le {m : ℕ} (hm : m ≤ 2 ^ 405) :
    |(fReal (fPack false (roundMag m 405)) : ℝ) / 2 ^ 149 - (m : ℝ) / 2 ^ 405| ≤ 1 / 2 ^ 25 := by
  have hround : RoundsTo (fPack false (roundMag m 405)) false m (2 ^ 256) := by
    have h := roundsTo_fPack_roundMag (m := m) (k := 405) (by norm_num) (Nat.two_pow_pos 256) false false fun _ h => h
    exact_mod_cast h
  have hone : roundMag (2 ^ 405) 405 < fInfMag := by decide +kernel
  have hmag := (roundMag_mono (k := 405) (by norm_num) hm).trans_lt hone
  obtain ⟨v, hv, hval⟩ := exists_fReal_eq (n := ((m + 2 ^ 380) / 2 ^ 381 : ℕ)) (e := 125) (by omega) (by norm_num)
  have hfin := (fIsFinite_fPack false (hmag.trans (by norm_num [fInfMag]))).2 hmag
  obtain ⟨-, -, -, hnearest⟩ := hround
  obtain ⟨hnear, -⟩ := hnearest hfin v hv
  have hint : |fReal (fPack false (roundMag m 405)) * 2 ^ 256 - (m : ℤ)| ≤ 2 ^ 380 := by
    refine hnear.trans ?_
    dsimp only
    rw [hval, abs_le]
    omega
  generalize fReal (fPack false (roundMag m 405)) = r at hint ⊢
  have hreal : |(r : ℝ) * 2 ^ 256 - m| ≤ 2 ^ 380 := by
    simpa only [Int.cast_abs, Int.cast_sub, Int.cast_mul, Int.cast_pow, Int.cast_ofNat, Int.cast_natCast] using
      Int.cast_le (R := ℝ).2 hint
  have hscale : (r : ℝ) / 2 ^ 149 - (m : ℝ) / 2 ^ 405 = (r * 2 ^ 256 - m) / 2 ^ 405 := by
    rw [sub_div, show (2 : ℝ) ^ 405 = 2 ^ 149 * 2 ^ 256 by rw [← pow_add],
      mul_div_mul_right _ _ (by positivity : (2 : ℝ) ^ 256 ≠ 0)]
  rw [hscale, abs_div, abs_of_pos (by positivity : (0 : ℝ) < 2 ^ 405), div_le_iff₀ (by positivity)]
  rwa [show (405 : ℕ) = 25 + 380 from rfl, pow_add, ← mul_assoc, one_div, inv_mul_cancel₀ (by positivity), one_mul]

/-- Settles O60: the series comes within 2^-28 of the sine and the one rounding adds at most 2^-25. -/
theorem qsinApproximatesTheSine : Obligations.QsinApproximatesTheSine := by
  intro u h0 h1
  obtain ⟨nzero, hnan, -⟩ := fKey_le_of_fle h0
  obtain ⟨-, nunit, -⟩ := fKey_le_of_fle h1
  rw [fle_iff nzero hnan, fReal_fZero] at h0
  rw [fle_iff hnan nunit, fReal_fOne] at h1
  have hunits : fReal u = fUnits u := by
    have habs := Int.natAbs_of_nonneg h0
    rwa [fReal_eq_signed, natAbs_signed, eq_comm] at habs
  have hn : fUnits u ≤ 2 ^ 149 := by omega
  have hround := abs_fReal_roundMag_sub_le (Nat.min_le_right (fUnits u * sinSlope (fUnits u)) (2 ^ 405))
  have hsin := abs_min_mul_sinSlope_sub_sin_le hn
  rw [← qsin_eq] at hround
  rw [hunits, Int.cast_natCast]
  calc _ ≤ 1 / 2 ^ 25 + 1 / 2 ^ 28 := (abs_sub_le _ _ _).trans (add_le_add hround hsin)
    _ ≤ 1 / 2 ^ 24 := by norm_num

end Sys2Proof.Machine

/-!
PROOFS. The statements of the resamplers (41_resampler), of what construction refuses and of FRAME. A frame is composed
from the frames of the operations on the state (`Frame.trans`, `Frame.mono`). A driving tick is read off the loop of
R125: it leaves at once where the advanced phase lies below the period, after one pass at period 1.0 and phase +0.0,
and never at period +0.0 and phase +0.0, where a pass gives the advanced phase back.
-/

namespace Sys2Proof.Machine

/-! ## Frames of the operations on the state -/

section Frames

variable {s t v : State} {regs regs' : Reg → Prop} {eb eb' ws ws' : Nat → Prop}

theorem Frame.mono (h : Frame s t regs eb ws) (hregs : ∀ a, regs a → regs' a) (heb : ∀ i, eb i → eb' i)
    (hws : ∀ i, ws i → ws' i) : Frame s t regs' eb' ws' := by
  obtain ⟨hr, he, hw, hrest⟩ := h
  exact ⟨fun a ha => hr a (mt (hregs a) ha), fun i hi => he i (mt (heb i) hi), fun i hi => hw i (mt (hws i) hi), hrest⟩

/-- What changes no RAM may stand in every frame of its registers. -/
theorem Frame.withRams (h : Frame s t regs nothing nothing) : Frame s t regs eb ws :=
  h.mono (fun _ => id) (fun _ => False.elim) fun _ => False.elim

theorem Frame.trans (h : Frame s t regs eb ws) (h' : Frame t v regs eb ws) : Frame s v regs eb ws := by
  obtain ⟨hr, he, hw, hcfg, hpending, hcmd, hwdata, hfree⟩ := h
  obtain ⟨hr', he', hw', hcfg', hpending', hcmd', hwdata', hfree'⟩ := h'
  exact ⟨fun a ha => (hr' a ha).trans (hr a ha), fun i hi => (he' i hi).trans (he i hi),
    fun i hi => (hw' i hi).trans (hw i hi), hcfg'.trans hcfg, hpending'.trans hpending, hcmd'.trans hcmd,
    hwdata'.trans hwdata, hfree'.trans hfree⟩

/-- Answering is outside every frame. -/
theorem Frame.respond (h : Frame s t regs eb ws) (r : Response) (x : Word) : Frame s (t.respond r x) regs eb ws := by
  obtain ⟨hreg, hrest⟩ := h
  exact ⟨fun a ha => (t.readReg_respond r x a).trans (hreg a ha), hrest⟩

/-- A change of STATUS. -/
theorem State.withStatus_frame (s : State) (st : Status) :
    Frame s { s with status := st } (· = .status) nothing nothing := by
  refine ⟨fun a ha => ?_, fun _ _ => rfl, fun _ _ => rfl, rfl, rfl, rfl, rfl, rfl⟩
  cases a with
  | rs u k => exact congrArg (Rs.get · k) (s.rs_withStatus st u)
  | status => exact absurd rfl ha
  | _ => rfl

/-- A fatal error changes STATUS only (R240). -/
theorem State.takeError_frame (s : State) (e : Response) (u : UnitId) :
    Frame s (s.takeError e (some u)) (· = .status) nothing nothing :=
  (s.withStatus_frame _).respond e 0#32

/-- A change of one resampler, in registers that the frame gives it. -/
theorem State.setRs_frame (s : State) (u : RsId) (x : Rs) (hx : ∀ k, ¬ regs (.rs u k) → x.get k = (s.rs u).get k) :
    Frame s (s.setRs u x) regs nothing nothing := by
  refine ⟨fun a ha => ?_, fun i _ => ?_, fun i _ => ?_, s.setRs_cfg u x, s.setRs_pending u x, ?_, ?_,
    s.setRs_freeCount u x⟩
  · cases a with
    | rs v k =>
      by_cases hv : v = u
      · subst hv
        exact (congrArg (Rs.get · k) (s.rs_setRs_same v x)).trans (hx k ha)
      · exact congrArg (Rs.get · k) (s.rs_setRs_other hv x)
    | _ => cases u <;> rfl
  · rw [State.readEb, s.setRs_echo, State.readEb]
  · rw [State.readWs, s.setRs_reverb, State.readWs]
  · rw [s.setRs_port]
  · rw [s.setRs_port]

/-- A change of samples. -/
theorem State.withSamples_frame (s : State) (b : Bank 32) (hb : ∀ i, ¬ regs (.sample i) → b.get i = s.samples.get i) :
    Frame s { s with samples := b } regs nothing nothing := by
  refine ⟨fun a ha => ?_, fun _ _ => rfl, fun _ _ => rfl, rfl, rfl, rfl, rfl, rfl⟩
  cases a with
  | sample i => exact hb i ha
  | rs u k => cases u <;> rfl
  | _ => rfl

theorem Bank.get_setFrameOut {b : Bank 32} (l r : F) :
    ∀ {i : Fin 8}, ¬ (i = 6 ∨ i = 7) → ({ b with r6 := l, r7 := r } : Bank 32).get i = b.get i
  | 6, h => absurd (.inl rfl) h
  | 7, h => absurd (.inr rfl) h
  | 0, _ | 1, _ | 2, _ | 3, _ | 4, _ | 5, _ => rfl

/-- The frame's output pair, S6 and S7. -/
theorem State.setFrameOut_frame (s : State) (l r : F) (h : ∀ i, i = 6 ∨ i = 7 → regs (.sample i)) :
    Frame s (s.setFrameOut l r) regs nothing nothing :=
  s.withSamples_frame _ fun i hi => Bank.get_setFrameOut l r (mt (h i) hi)

/-- The output pair of a resampler: S2 and S3, or S4 and S5 (R124). -/
theorem State.setRsOut_frame (s : State) (u : RsId) (l r : F)
    (h : ∀ i, (u = .rs0 ∧ (i = 2 ∨ i = 3)) ∨ (u = .rs1 ∧ (i = 4 ∨ i = 5)) → regs (.sample i)) :
    Frame s (s.setRsOut u l r) regs nothing nothing := by
  cases u with
  | rs0 => exact s.withSamples_frame _ fun i hi => Bank.get_setEchoOut l r fun hout => hi (h i (.inl ⟨rfl, hout⟩))
  | rs1 => exact s.withSamples_frame _ fun i hi => Bank.get_setReverbOut l r fun hout => hi (h i (.inr ⟨rfl, hout⟩))

end Frames

/-! ## Construction that is refused (R121, R141, R173, R240) -/

/-- What a constructor answers on bad arguments: the error code on the port and in FCODE, the unit no longer ready,
nothing else changed. -/
theorem exec_constructorFails {s : State} {i : Instr} {e : Response} {u : UnitId} {st : Status}
    (hexec : exec i s = .next (s.takeError e (some u)))
    (hst : st = (s.status.latchFatal (BitVec.ofNat 8 e.code)).setReady u false) :
    ∃ t, exec i s = .next t ∧ t.Answered e 0#32 ∧ t.status = st ∧ Frame s t (· = .status) nothing nothing :=
  ⟨_, hexec, by simp [State.Answered], hst ▸ s.takeError_some_status e u, s.takeError_frame e u⟩

theorem word_toNat_eq_zero (w : Word) : w.toNat = 0 ↔ w = 0#32 := by
  rw [← BitVec.toNat_inj]
  rfl

/-- The argument check of EINIT and RINIT: rate and capacity are not 0 and the capacity is not above the RAM. -/
theorem constructorArgs_iff {rate cap : Word} {words : Nat} :
    (decide (rate.toNat ≠ 0) && decide (cap.toNat ≠ 0) && decide (cap.toNat ≤ words)) = true ↔
      rate ≠ 0#32 ∧ cap ≠ 0#32 ∧ cap.toNat ≤ words := by
  simp only [Bool.and_eq_true, decide_eq_true_eq, ne_eq, word_toNat_eq_zero, and_assoc]

theorem constructorArgs_eq_false {rate cap : Word} {words : Nat} (h : rate = 0#32 ∨ cap = 0#32 ∨ words < cap.toNat) :
    (decide (rate.toNat ≠ 0) && decide (cap.toNat ≠ 0) && decide (cap.toNat ≤ words)) = false := by
  rw [← Bool.not_eq_true, constructorArgs_iff]
  rintro ⟨hrate, hcap, hwords⟩
  obtain h | h | h := h
  · exact hrate h
  · exact hcap h
  · exact hwords.not_gt h

theorem lineOf_mem_toList {α : Type} (l : Lines α) (a : LineId) : lineOf l a ∈ l.toList := by
  cases a <;> simp [lineOf, Lines.toList]

/-- One scaled address or length that does not lie below the ring is enough (R173). -/
theorem presetFits_eq_false {p : Preset} {rate ring : Nat} {a : LineId} (h : ring ≤ scaleLine rate (lineOf p.lines a)) :
    presetFits p rate ring = false := by
  refine Bool.eq_false_of_not_eq_true fun hfits => ?_
  exact (of_decide_eq_true (List.all_eq_true.1 hfits _ (lineOf_mem_toList p.lines a))).not_ge h

section ConstructionErrors

variable {s : State} {p : Nat} {preset : Preset} {u : RsId}

theorem exec_einit_param (hlive : s.status.fatal = false)
    (h : s.arg0 = 0#32 ∨ s.arg1 = 0#32 ∨ s.cfg.ebWords < s.arg1.toNat) :
    exec .einit s = .next (s.takeError .param (some .echo)) := by
  show execEinit s = _
  rw [execEinit, checkLive_of_live hlive, constructorArgs_eq_false h, checkFatal_false]

theorem exec_einit_capacity (hlive : s.status.fatal = false)
    (hargs : s.arg0 ≠ 0#32 ∧ s.arg1 ≠ 0#32 ∧ s.arg1.toNat ≤ s.cfg.ebWords)
    (h : s.arg1.toNat < echoRequired s.arg0.toNat) : exec .einit s = .next (s.takeError .capacity (some .echo)) := by
  show execEinit s = _
  rw [execEinit, checkLive_of_live hlive, constructorArgs_iff.2 hargs, checkFatal_true, decide_eq_false h.not_ge,
    checkFatal_false]

theorem exec_rinit_param (hlive : s.status.fatal = false) (hp : s.cfg.presets[p]? = some preset)
    (h : s.arg0 = 0#32 ∨ s.arg1 = 0#32 ∨ s.cfg.wsWords < s.arg1.toNat) :
    exec (.rinit p) s = .next (s.takeError .param (some .reverb)) := by
  show execRinit p s = _
  rw [execRinit, checkLive_of_live hlive, hp]
  dsimp only
  rw [constructorArgs_eq_false h, checkFatal_false]

theorem exec_rinit_capacity (hlive : s.status.fatal = false) (hp : s.cfg.presets[p]? = some preset)
    (hargs : s.arg0 ≠ 0#32 ∧ s.arg1 ≠ 0#32 ∧ s.arg1.toNat ≤ s.cfg.wsWords)
    (h : s.arg1.toNat < reverbRing s.cfg.presets s.arg0.toNat ∨
      ∃ l, reverbRing s.cfg.presets s.arg0.toNat ≤ scaleLine s.arg0.toNat (lineOf preset.lines l)) :
    exec (.rinit p) s = .next (s.takeError .capacity (some .reverb)) := by
  have hfail : (decide (reverbRing s.cfg.presets s.arg0.toNat ≤ s.arg1.toNat) &&
      presetFits preset s.arg0.toNat (reverbRing s.cfg.presets s.arg0.toNat)) = false := by
    obtain h | ⟨l, h⟩ := h
    · rw [decide_eq_false h.not_ge, Bool.false_and]
    · rw [presetFits_eq_false h, Bool.and_false]
  show execRinit p s = _
  rw [execRinit, checkLive_of_live hlive, hp]
  dsimp only
  rw [constructorArgs_iff.2 hargs, checkFatal_true, hfail, checkFatal_false]

theorem exec_rsinit_param (hlive : s.status.fatal = false) (h : rsRatesOk s.arg0.toNat s.arg1.toNat = false) :
    exec (.rsinit u) s = .next (s.takeError .param (some (.rs u))) := by
  show execRsinit u s = _
  rw [execRsinit, checkLive_of_live hlive, h, checkFatal_false]

end ConstructionErrors

/-- Settles O18: the check that fails is named, and a fatal error has one frame. -/
theorem constructionErrorsAreFatal : Obligations.ConstructionErrorsAreFatal := by
  refine ⟨fun s hlive h => ?_, fun s hlive h0 h1 hwords h => ?_, fun s p hlive hp h => ?_,
    fun s p q hlive hp h0 h1 hwords h => ?_, fun s u hlive h => ?_⟩
  · exact exec_constructorFails (exec_einit_param hlive h) rfl
  · exact exec_constructorFails (exec_einit_capacity hlive ⟨h0, h1, hwords⟩ h) rfl
  · exact exec_constructorFails (exec_rinit_param hlive (List.getElem?_eq_getElem hp) h) rfl
  · exact exec_constructorFails (exec_rinit_capacity hlive hp ⟨h0, h1, hwords⟩ h) rfl
  · have hrates : rsRatesOk s.arg0.toNat s.arg1.toNat = false := by
      rw [← Bool.not_eq_true, rsRatesOk_iff, ne_eq, ne_eq, word_toNat_eq_zero, word_toNat_eq_zero]
      rintro ⟨h0, h1, hab, hba⟩
      obtain h | h | h | h := h
      · exact h0 h
      · exact h1 h
      · exact hab.not_gt h
      · exact hba.not_gt h
    refine exec_constructorFails (exec_rsinit_param hlive hrates) ?_
    cases u <;> rfl

/-! ## RSINIT and RSCLR (R121, R122, R129) -/

/-- What a successful RSINIT makes of the state: the new resampler, and its READY bit set. -/
def State.constructRs (s : State) (u : RsId) (x : Rs) : State :=
  { s.setRs u x with status := s.status.setReady (.rs u) true }

theorem State.rs_constructRs (s : State) (u : RsId) (x : Rs) : (s.constructRs u x).rs u = x :=
  (State.rs_withStatus _ _ u).trans (s.rs_setRs_same u x)

theorem State.constructRs_frame (s : State) (u : RsId) (x : Rs) :
    Frame s (s.constructRs u x) (Reg.writtenByRsinit u) nothing nothing :=
  (s.setRs_frame u x fun _ hk => absurd rfl hk).trans <|
    (State.withStatus_frame _ _).mono (fun _ ha => ha ▸ trivial) (fun _ => id) fun _ => id

theorem exec_rsinit_rates {s : State} {u : RsId} (hlive : s.status.fatal = false)
    (h : rsRatesOk s.arg0.toNat s.arg1.toNat = true) :
    exec (.rsinit u) s = .next (s.constructRs u (Rs.construct s.arg0 s.arg1)).respondOk := by
  show execRsinit u s = _
  rw [execRsinit, checkLive_of_live hlive, h, checkFatal_true, State.constructRs]

theorem Rs.get_period (r : Rs) : r.get .period = r.period := rfl

theorem Rs.construct_period (a b : Word) : (Rs.construct a b).period = rsPeriod a b := rfl

/-- R122: the period is the rounded quotient of the rounded rates. -/
theorem Rs.get_period_construct (a b : Word) :
    (Rs.construct a b).get .period = fdiv (u32ToF a.toNat) (u32ToF b.toNat) := by
  rw [Rs.get_period, Rs.construct_period, rsPeriod]

/-- Settles O32: the resampler is `Rs.construct` of the two rates. -/
theorem rsinitConstructsResampler : Obligations.RsinitConstructsResampler := by
  intro s u hlive h0 h1 hab hba
  have hrates : rsRatesOk s.arg0.toNat s.arg1.toNat = true :=
    rsRatesOk_iff.2 ⟨mt (word_toNat_eq_zero _).1 h0, mt (word_toNat_eq_zero _).1 h1, hab, hba⟩
  have hreg (k : RsField) : (s.constructRs u (Rs.construct s.arg0 s.arg1)).respondOk.readReg (.rs u k) =
      (Rs.construct s.arg0 s.arg1).get k :=
    congrArg (Rs.get · k) (by rw [State.rs_respondOk, State.rs_constructRs])
  exact ⟨_, exec_rsinit_rates hlive hrates, State.answered_respondOk _, hreg .driving, hreg .driven,
    (hreg .period).trans (Rs.get_period_construct _ _), hreg .phase, hreg .lastL, hreg .lastR, hreg .nextL, hreg .nextR,
    rfl, (s.constructRs_frame u _).respondOk⟩

theorem exec_rsclr_ready {s : State} {u : RsId} (hlive : s.status.fatal = false)
    (hready : s.status.ready (.rs u) = true) : exec (.rsclr u) s = .next (s.setRs u (s.rs u).clear).respondOk := by
  show execRsclr u s = _
  rw [execRsclr, checkLive_of_live hlive, hready, check_true]

/-- Period and rates are all that RSCLR leaves of its resampler. -/
theorem Rs.get_clear (r : Rs) {k : RsField} (hk : ¬ (k ≠ .period ∧ k ≠ .driving ∧ k ≠ .driven)) :
    r.clear.get k = r.get k := by
  cases k with
  | period | driving | driven => rfl
  | _ => exact absurd ⟨nofun, nofun, nofun⟩ hk

/-- Settles O33: the resampler is `Rs.clear` of what it was. -/
theorem rsclrClearsHeldOutputs : Obligations.RsclrClearsHeldOutputs := by
  intro s u hlive hready
  have hreg (k : RsField) : (s.setRs u (s.rs u).clear).respondOk.readReg (.rs u k) = (s.rs u).clear.get k :=
    congrArg (Rs.get · k) (by rw [State.rs_respondOk, State.rs_setRs_same])
  refine ⟨_, exec_rsclr_ready hlive hready, State.answered_respondOk _, hreg .phase, hreg .lastL,
    hreg .lastR, hreg .nextL, hreg .nextR, ?_⟩
  exact (s.setRs_frame u _ fun k hk => (s.rs u).get_clear fun hwritten => hk ⟨rfl, hwritten⟩).respondOk

/-! ## A driving tick from its loop (R125) -/

/-- The resampler as a driving tick enters the loop of R125: the phase advanced by 1.0. -/
def Rs.advance (r : Rs) : Rs := { r with phase := fadd r.phase fOne }

/-- What one call at phase +0.0 leaves of the resampler: the newer pair moved to the older one, the output `out` the
newer one. -/
def Rs.afterOneCall (r : Rs) (out : F × F) : Rs :=
  { r with lastL := r.nextL, lastR := r.nextR, nextL := out.1, nextR := out.2 }

section Process

variable {σ : Type} {producer : σ → F → F → σ × F × F} {inL inR : F} {r r' : Rs} {m m' : σ}

theorem rsProcess_of_rsLoop (h : rsLoop producer inL inR Config.rsFuel r.advance m = some (r', m')) :
    rsProcess producer r m inL inR = some (r', m', r'.output.1, r'.output.2) := by
  unfold rsProcess
  rw [show rsLoop producer inL inR Config.rsFuel { r with phase := fadd r.phase fOne } m = _ from h]

/-- Where the advanced phase lies below the period no call is made. -/
theorem rsProcess_without_call (h : fle r.period (fadd r.phase fOne) = false) :
    rsProcess producer r m inL inR = some (r.advance, m, r.advance.output.1, r.advance.output.2) :=
  rsProcess_of_rsLoop (rsLoop_exit Config.rsFuel h)

/-- 1 + 0 reaches 1, 1 − 1 does not. -/
theorem rsProcess_at_unity (hperiod : r.period = fOne) (hphase : r.phase = fZero) :
    rsProcess producer r m inL inR = some (r.afterOneCall (producer m inL inR).2, (producer m inL inR).1,
      lerp r.nextL (producer m inL inR).2.1 fZero, lerp r.nextR (producer m inL inR).2.2 fZero) := by
  have hconst : fadd fZero fOne = fOne ∧ fle fOne fOne = true ∧ fsub fOne fOne = fZero ∧ fle fOne fZero = false ∧
      fdiv fZero fOne = fZero := by decide +kernel
  obtain ⟨hadvance, hcall, hback, hexit, hquot⟩ := hconst
  have hshift : r.advance.shift (producer m inL inR).2.1 (producer m inL inR).2.2 =
      r.afterOneCall (producer m inL inR).2 := by
    simp only [Rs.shift, Rs.advance, Rs.afterOneCall, hperiod, hphase, hadvance, hback]
  have hloop : rsLoop producer inL inR Config.rsFuel r.advance m =
      some (r.afterOneCall (producer m inL inR).2, (producer m inL inR).1) := by
    rw [Config.rsFuel, rsLoop_call 513 (by simp only [Rs.advance, hperiod, hphase, hadvance, hcall]), hshift]
    exact rsLoop_exit _ (by simp only [Rs.afterOneCall, hperiod, hphase, hexit])
  have hpoint : fdiv (r.afterOneCall (producer m inL inR).2).phase (r.afterOneCall (producer m inL inR).2).period =
      fZero := by simp only [Rs.afterOneCall, hperiod, hphase, hquot]
  rw [rsProcess_of_rsLoop hloop, Rs.output, hpoint]
  rfl

/-- At period +0.0 every call leaves the phase at 1.0, so the loop runs out of calls. -/
theorem rsLoop_zeroPeriod : ∀ {fuel : Nat} {r : Rs} {m : σ}, r.period = fZero → r.phase = fOne →
    rsLoop producer inL inR fuel r m = none := by
  have hconst : fle fZero fOne = true ∧ fsub fOne fZero = fOne := by decide +kernel
  obtain ⟨hcall, hback⟩ := hconst
  intro fuel
  induction fuel with
  | zero =>
    intro r m hperiod hphase
    simp only [rsLoop, hperiod, hphase, hcall, if_true]
  | succ fuel ih =>
    intro r m hperiod hphase
    rw [rsLoop_call fuel (by rw [hperiod, hphase, hcall])]
    exact ih hperiod (by rw [Rs.shift, hperiod, hphase, hback])

theorem rsProcess_zeroPeriod (hperiod : r.period = fZero) (hphase : r.phase = fZero) :
    rsProcess producer r m inL inR = none := by
  have hadvance : fadd fZero fOne = fOne := by decide +kernel
  have hloop : rsLoop producer inL inR Config.rsFuel { r with phase := fadd r.phase fOne } m = none :=
    rsLoop_zeroPeriod hperiod (by rw [hphase, hadvance])
  unfold rsProcess
  rw [hloop]

end Process

section DrivingTick

variable {s t : State} {u : RsId} {l o : F}

theorem State.rsTick_rs0_of_rsProcess {r : Rs} {e : Echo}
    (h : rsProcess Echo.tick s.rs0 s.echo s.samples.r0 s.samples.r1 = some (r, e, l, o)) :
    s.rsTick .rs0 = some ({ s with rs0 := r, echo := e }.setEchoOut l o) := by
  unfold State.rsTick
  rw [h]
  rfl

theorem State.rsTick_rs1_of_rsProcess {r : Rs} {e : Reverb}
    (h : rsProcess Reverb.tick s.rs1 s.reverb s.samples.r0 s.samples.r1 = some (r, e, l, o)) :
    s.rsTick .rs1 = some ({ s with rs1 := r, reverb := e }.setReverbOut l o) := by
  unfold State.rsTick
  rw [h]
  rfl

theorem State.rsTick_without_call (h : fle (s.rs u).period (fadd (s.rs u).phase fOne) = false) :
    s.rsTick u = some ((s.setRs u (s.rs u).advance).setRsOut u (s.rs u).advance.output.1
      (s.rs u).advance.output.2) := by
  cases u with
  | rs0 => exact State.rsTick_rs0_of_rsProcess (rsProcess_without_call h)
  | rs1 => exact State.rsTick_rs1_of_rsProcess (rsProcess_without_call h)

theorem State.rsTick_zeroPeriod (hperiod : (s.rs u).period = fZero) (hphase : (s.rs u).phase = fZero) :
    s.rsTick u = none := by
  cases u with
  | rs0 =>
    unfold State.rsTick
    rw [show rsProcess Echo.tick s.rs0 s.echo s.samples.r0 s.samples.r1 = none from rsProcess_zeroPeriod hperiod hphase]
  | rs1 =>
    unfold State.rsTick
    rw [show rsProcess Reverb.tick s.rs1 s.reverb s.samples.r0 s.samples.r1 = none from
      rsProcess_zeroPeriod hperiod hphase]

end DrivingTick

/-- Settles O35: at period 1.0 the loop makes its one call and interpolates at 0/1. -/
theorem rstickAtUnityCallsOnce : Obligations.RstickAtUnityCallsOnce := by
  intro s hlive
  refine ⟨fun hready hring hperiod hphase => ?_, fun hready hring hperiod hphase => ?_⟩
  · have htick := State.rsTick_rs0_of_rsProcess (rsProcess_at_unity hperiod hphase)
    generalize s.echo.tick s.samples.r0 s.samples.r1 = p at htick ⊢
    exact ⟨_, exec_rstick_of_rsTick hlive hready hring htick, State.answered_respondOk _, rfl, rfl, rfl, rfl⟩
  · have htick := State.rsTick_rs1_of_rsProcess (rsProcess_at_unity hperiod hphase)
    generalize s.reverb.tick s.samples.r0 s.samples.r1 = p at htick ⊢
    exact ⟨_, exec_rstick_of_rsTick hlive hready hring htick, State.answered_respondOk _, rfl, rfl, rfl, rfl⟩

/-! ## Silence before the first call (R128, R269) -/

/-- A quotient of a value below its positive divisor does not overflow. -/
theorem fIsFinite_fdiv_of_lt {x y : F} (hx : fIsFinite x = true) (hy : fIsFinite y = true) (h0 : 0 ≤ fReal x)
    (hlt : fReal x < fReal y) : fIsFinite (fdiv x y) = true := by
  obtain ⟨-, hfin, -⟩ := roundsTo_fdiv hx hy (h0.trans_lt hlt).ne'
  rw [hfin, abs_of_nonneg (by omega), abs_of_nonneg (by omega)]
  omega

theorem lerp_zero_zero {t : F} (ht : fIsFinite t = true) : lerp fZero fZero t = fZero := by
  obtain ⟨-, -, -, hequal⟩ := blendEndPointsAreExact fZero fZero (by decide) (by decide)
  exact hequal t ht (by decide)

/-- Between held pairs that are +0.0 a phase below the period interpolates +0.0. -/
theorem Rs.InRange.output_advance {r : Rs} (h : r.InRange) (hheld : r = { r.clear with phase := r.phase })
    (hexit : fle r.period (fadd r.phase fOne) = false) : r.advance.output = (fZero, fZero) := by
  obtain ⟨hper, -, -, -, -, -⟩ := r.inRange_iff.1 h
  obtain ⟨hfin, h0, -⟩ := Rs.PhaseWithin.advance h
  rw [← Bool.not_eq_true, fle_iff (fIsNaN_of_finite hper) (fIsNaN_of_finite hfin), not_le] at hexit
  have hquot := fIsFinite_fdiv_of_lt hfin hper h0 hexit
  have hpairs : r.lastL = fZero ∧ r.lastR = fZero ∧ r.nextL = fZero ∧ r.nextR = fZero := by
    rw [hheld]
    exact ⟨rfl, rfl, rfl, rfl⟩
  obtain ⟨hlL, hlR, hnL, hnR⟩ := hpairs
  simp only [Rs.output, Rs.advance, hlL, hlR, hnL, hnR, lerp_zero_zero hquot]

/-- Settles O36: the loop leaves at once, with the resampler only advanced. -/
theorem rstickWithoutCallOnlyInterpolates : Obligations.RstickWithoutCallOnlyInterpolates := by
  intro s u hlive hready hring hexit
  have htick := State.rsTick_without_call hexit
  have hexec := exec_rstick_of_rsTick hlive hready hring htick
  obtain ⟨hregs, -, -, hrest⟩ := (State.rsTick_frame htick).respondOk
  cases u with
  | rs0 =>
    refine ⟨_, hexec, State.answered_respondOk _, rfl, rfl, rfl, fun _ => ⟨rfl, rfl⟩, nofun,
      fun hrange hheld => ⟨fun _ => ?_, nofun⟩, hregs, fun _ _ => rfl, fun _ _ => rfl, hrest⟩
    exact Prod.mk.inj (hrange.output_advance hheld hexit)
  | rs1 =>
    refine ⟨_, hexec, State.answered_respondOk _, rfl, rfl, rfl, nofun, fun _ => ⟨rfl, rfl⟩,
      fun hrange hheld => ⟨nofun, fun _ => ?_⟩, hregs, fun _ _ => rfl, fun _ _ => rfl, hrest⟩
    exact Prod.mk.inj (hrange.output_advance hheld hexit)

/-! ## FRAME past its admission check (R205) -/

/-- FRAME runs its two ticks: FATAL = 0, all four units are ready and both rings are in place. -/
structure State.FrameAdmitted (s : State) : Prop where
  live : s.status.fatal = false
  ready0 : s.rsReady .rs0 = true
  ready1 : s.rsReady .rs1 = true
  echoRing : s.echoRingOk = true
  reverbRing : s.reverbRingOk = true

/-- The two driving ticks of FRAME and its mix, without its checks. -/
def State.frameRun (s : State) : Result :=
  match s.rsTick .rs0 with
  | none => .next (s.takeWatchdog .rs0 true)
  | some s1 =>
    match s1.rsTick .rs1 with
    | none => .next (s1.takeWatchdog .rs1 true)
    | some s2 => .next s2.mix.respondOk

section FrameAdmitted

variable {s s1 s2 : State}

theorem State.FrameAdmitted.exec_frame (h : s.FrameAdmitted) : exec .frame s = s.frameRun := by
  show execFrame s = _
  rw [execFrame, checkLive_of_live h.live, frame_ready h.ready0 h.ready1, check_true, h.echoRing, requireRam_true,
    h.reverbRing, requireRam_true]
  rfl

theorem State.FrameAdmitted.exec_ticks (h : s.FrameAdmitted) (ht0 : s.rsTick .rs0 = some s1)
    (ht1 : s1.rsTick .rs1 = some s2) : exec .frame s = .next s2.mix.respondOk := by
  simp only [h.exec_frame, State.frameRun, ht0, ht1]

theorem State.FrameAdmitted.exec_watchdog0 (h : s.FrameAdmitted) (ht0 : s.rsTick .rs0 = none) :
    exec .frame s = .next (s.takeWatchdog .rs0 true) := by
  simp only [h.exec_frame, State.frameRun, ht0]

theorem State.FrameAdmitted.exec_watchdog1 (h : s.FrameAdmitted) (ht0 : s.rsTick .rs0 = some s1)
    (ht1 : s1.rsTick .rs1 = none) : exec .frame s = .next (s1.takeWatchdog .rs1 true) := by
  simp only [h.exec_frame, State.frameRun, ht0, ht1]

/-- Resampler 0 leaves resampler 1. -/
theorem State.rsTick_rs0_rs1 (h : s.rsTick .rs0 = some s1) : s1.rs1 = s.rs1 := by
  obtain ⟨n, r, -, rfl⟩ := State.rsTick_rs0_effect h
  exact State.setEchoOut_rs1 _ _ _

/-- What a driving tick writes, FRAME writes: the output pairs of both resamplers lie in S2 to S7. -/
theorem Reg.writtenByFrame_of_rstick {u : RsId} {a : Reg} (h : a.writtenByRstick u) : a.writtenByFrame := by
  cases a with
  | sample i =>
    obtain ⟨-, rfl | rfl⟩ | ⟨-, rfl | rfl⟩ := h <;> exact show (2 : Nat) ≤ _ by decide
  | _ =>
    cases u with
    | rs0 => exact .inl h
    | rs1 => exact .inr h

/-- The frame of two driving ticks and the mix. -/
theorem State.frame_of_ticks (ht0 : s.rsTick .rs0 = some s1) (ht1 : s1.rsTick .rs1 = some s2) :
    Frame s s2.mix Reg.writtenByFrame (fun _ => True) (fun _ => True) := by
  have htick {s t : State} {u : RsId} (ht : s.rsTick u = some t) :
      Frame s t Reg.writtenByFrame (fun _ => True) (fun _ => True) :=
    (State.rsTick_frame ht).mono (fun _ => Reg.writtenByFrame_of_rstick) (fun _ _ => trivial) fun _ _ => trivial
  have hmix : Frame s2 s2.mix Reg.writtenByFrame nothing nothing := s2.setFrameOut_frame _ _ fun i hi => by
    obtain rfl | rfl := hi <;> exact show (2 : Nat) ≤ _ by decide
  exact ((htick ht0).trans (htick ht1)).trans hmix.withRams

end FrameAdmitted

/-- Settles O40: both ticks complete from R33, resampler 0 leaves resampler 1 and the input pair, and MIX reads the
pairs the ticks wrote. -/
theorem frameCompletesFromItsInvariant : Obligations.FrameCompletesFromItsInvariant := by
  intro s hlive hready0 hready1 hecho hreverb hrange0 hrange1
  obtain ⟨s1, ht0⟩ := State.rsTick_of_inRange (u := .rs0) hrange0
  obtain ⟨s2, ht1⟩ : ∃ s2, s1.rsTick .rs1 = some s2 :=
    State.rsTick_of_inRange (u := .rs1) (show s1.rs1.InRange from State.rsTick_rs0_rs1 ht0 ▸ hrange1)
  have hexec := State.FrameAdmitted.exec_ticks ⟨hlive, hready0, hready1, hecho, hreverb⟩ ht0 ht1
  have hframe := (State.frame_of_ticks ht0 ht1).respondOk
  obtain ⟨n, r, hf0, rfl⟩ := State.rsTick_rs0_effect ht0
  obtain ⟨m, q, hf1, rfl⟩ := State.rsTick_rs1_effect ht1
  exact ⟨_, n, m, hexec, State.answered_respondOk _, hf0.inRange hrange0, hf1.inRange hrange1,
    (Rs.calls_le hrange0 hf0.1).2, (Rs.calls_le hrange1 hf1.1).2, rfl, hf0, rfl, hf1, rfl, rfl, rfl, rfl, rfl, rfl,
    hframe⟩

/-! ## What a watchdog leaves alone (R127, R240, U5; log 6) -/

/-- The resampler that hit the bound and its producer's model. -/
theorem State.freeUnit_frame (s : State) (u : RsId) (f : Bool) :
    Frame s (s.freeUnit u) (Reg.openAfterWatchdog u f) (fun _ => u = .rs0) (fun _ => u = .rs1) := by
  cases u with
  | rs0 =>
    refine ⟨fun a ha => ?_, fun _ hi => absurd rfl hi, fun _ _ => rfl, rfl, rfl, rfl, rfl, rfl⟩
    cases a with
    | rs v k =>
      cases v with
      | rs0 => exact absurd rfl ha
      | rs1 => rfl
    | ecfg | emod | firc | eRate | eCap | eInc | eLen | eWidx | eCand | eeff | firh => exact absurd rfl ha
    | _ => rfl
  | rs1 =>
    refine ⟨fun a ha => ?_, fun _ _ => rfl, fun _ hi => absurd rfl hi, rfl, rfl, rfl, rfl, rfl⟩
    cases a with
    | rs v k =>
      cases v with
      | rs0 => rfl
      | rs1 => exact absurd rfl ha
    | rRate | rCap | rPreset | rRing | rCur | gain | line => exact absurd rfl ha
    | _ => rfl

/-- The free values a watchdog writes: into the resampler, its producer's model and the output registers. -/
def State.freeOutputs (s : State) (u : RsId) (isFrame : Bool) : State :=
  let t := (s.freeUnit u).setRsOut u (Config.freeWord (s.freeCount + 60)) (Config.freeWord (s.freeCount + 61))
  if isFrame then
    t.setFrameOut (Config.freeWord (s.freeCount + 62)) (Config.freeWord (s.freeCount + 63))
  else t

theorem State.takeWatchdog_eq (s : State) (u : RsId) (f : Bool) :
    s.takeWatchdog u f =
      { s.freeOutputs u f with freeCount := s.freeCount + watchdogFreeCount }.takeError .watchdog (some (.rs u)) := rfl

theorem State.freeOutputs_frame (s : State) (u : RsId) (f : Bool) :
    Frame s (s.freeOutputs u f) (Reg.openAfterWatchdog u f) (fun _ => u = .rs0) (fun _ => u = .rs1) := by
  have hout (l r : F) : Frame s ((s.freeUnit u).setRsOut u l r) (Reg.openAfterWatchdog u f) (fun _ => u = .rs0)
      (fun _ => u = .rs1) := by
    refine (s.freeUnit_frame u f).trans (Frame.withRams ?_)
    exact State.setRsOut_frame _ u l r fun i hi => hi.imp_right .inl
  cases f with
  | false => exact hout _ _
  | true =>
    have hframe := State.setFrameOut_frame (regs := Reg.openAfterWatchdog u true)
      ((s.freeUnit u).setRsOut u (Config.freeWord (s.freeCount + 60)) (Config.freeWord (s.freeCount + 61)))
      (Config.freeWord (s.freeCount + 62)) (Config.freeWord (s.freeCount + 63)) fun i hi => .inr (.inr ⟨rfl, hi⟩)
    exact (hout _ _).trans hframe.withRams

/-- The count of free values is no register. -/
theorem State.readReg_withFreeCount (s : State) (n : Nat) (a : Reg) :
    { s with freeCount := n }.readReg a = s.readReg a := by
  cases a with
  | rs u k => cases u <;> rfl
  | _ => rfl

/-- Everything that lies outside what U5 leaves unspecified. -/
structure State.KeptByWatchdog (s t : State) (u : RsId) (isFrame : Bool) : Prop where
  readReg : ∀ a, ¬ Reg.openAfterWatchdog u isFrame a → t.readReg a = s.readReg a
  readEb : u = .rs1 → ∀ i, t.readEb i = s.readEb i
  readWs : u = .rs0 → ∀ i, t.readWs i = s.readWs i
  cfg : t.cfg = s.cfg
  pending : t.pending = s.pending

theorem State.takeWatchdog_keeps (s : State) (u : RsId) (f : Bool) : s.KeptByWatchdog (s.takeWatchdog u f) u f := by
  obtain ⟨hreg, heb, hws, hcfg, hpending, -⟩ := s.freeOutputs_frame u f
  obtain ⟨hreg', heb', hws', hcfg', hpending', -⟩ :=
    State.takeError_frame { s.freeOutputs u f with freeCount := s.freeCount + watchdogFreeCount } .watchdog (.rs u)
  rw [s.takeWatchdog_eq]
  refine ⟨fun a ha => ?_, fun hu i => ?_, fun hu i => ?_, hcfg'.trans hcfg, hpending'.trans hpending⟩
  · have hne : a ≠ .status := fun h => ha (h ▸ trivial)
    exact ((hreg' a hne).trans (State.readReg_withFreeCount _ _ a)).trans (hreg a ha)
  · exact (heb' i id).trans (heb i (by rw [hu]; nofun))
  · exact (hws' i id).trans (hws i (by rw [hu]; nofun))

theorem State.answered_takeWatchdog (s : State) (u : RsId) (f : Bool) :
    (s.takeWatchdog u f).Answered .watchdog 0#32 := by
  simp [s.takeWatchdog_eq, State.Answered]

theorem exec_rstick_of_watchdog {s : State} {u : RsId} (hlive : s.status.fatal = false) (hready : s.rsReady u = true)
    (hring : s.modelRingOk u = true) (ht : s.rsTick u = none) :
    exec (.rstick u) s = .next (s.takeWatchdog u false) := by
  show execRstick u s = _
  rw [execRstick, checkLive_of_live hlive, hready, check_true, hring, requireRam_true, ht]

/-- An RSTICK that answers OK past its checks is a driving tick. -/
theorem rsTick_of_exec_rstick {s s1 : State} {u : RsId} (hlive : s.status.fatal = false) (hready : s.rsReady u = true)
    (hring : s.modelRingOk u = true) (h : exec (.rstick u) s = .next s1) (hok : s1.port.resp = 0#4) :
    ∃ t, s.rsTick u = some t ∧ s1 = t.respondOk := by
  cases ht : s.rsTick u with
  | none =>
    rw [exec_rstick_of_watchdog hlive hready hring ht, Host.Outcome.next.injEq] at h
    rw [← h, s.takeWatchdog_resp] at hok
    exact absurd hok (by decide)
  | some t =>
    rw [exec_rstick_of_rsTick hlive hready hring ht, Host.Outcome.next.injEq] at h
    exact ⟨t, rfl, h.symm⟩

/-- Settles O37: at period +0.0 the loop runs out of calls; in FRAME the second tick starts from what the first one
left. -/
theorem zeroPeriodEndsInWatchdog : Obligations.ZeroPeriodEndsInWatchdog := by
  refine ⟨fun s u hlive hready hring hperiod hphase => ?_, fun s hlive hready0 hready1 hecho hreverb =>
    ⟨fun hperiod hphase => ?_, fun s1 hexec hok hperiod hphase => ?_⟩⟩
  · have hkept := s.takeWatchdog_keeps u false
    have hstatus : (s.takeWatchdog u false).status =
        { s.status.setReady (.rs u) false with fatal := true, fcode := 7#8 } :=
      (s.takeWatchdog_status u false).trans (by cases u <;> rfl)
    exact ⟨_, exec_rstick_of_watchdog hlive hready hring (State.rsTick_zeroPeriod hperiod hphase),
      s.answered_takeWatchdog u false, hstatus, hkept.readReg, hkept.readEb, hkept.readWs, hkept.cfg, hkept.pending⟩
  · have hadmitted : s.FrameAdmitted := ⟨hlive, hready0, hready1, hecho, hreverb⟩
    have hkept := s.takeWatchdog_keeps .rs0 true
    exact ⟨_, hadmitted.exec_watchdog0 (State.rsTick_zeroPeriod (u := .rs0) hperiod hphase),
      s.answered_takeWatchdog .rs0 true, s.takeWatchdog_status .rs0 true, hkept.readReg, hkept.readWs rfl, hkept.cfg,
      hkept.pending⟩
  · have hadmitted : s.FrameAdmitted := ⟨hlive, hready0, hready1, hecho, hreverb⟩
    obtain ⟨t, ht0, rfl⟩ := rsTick_of_exec_rstick hlive hready0 hecho hexec hok
    have hrs : t.rs1 = s.rs1 := State.rsTick_rs0_rs1 ht0
    have ht1 : t.rsTick .rs1 = none := State.rsTick_zeroPeriod (u := .rs1) ((congrArg Rs.period hrs).trans hperiod)
      ((congrArg Rs.phase hrs).trans hphase)
    have hstatus : (t.takeWatchdog .rs1 true).status =
        { s.status with rs1Ready := false, fatal := true, fcode := 7#8 } :=
      State.rsTick_status ht0 ▸ t.takeWatchdog_status .rs1 true
    have hkept := t.takeWatchdog_keeps .rs1 true
    obtain ⟨-, -, -, hcfg, hpending, -⟩ := State.rsTick_frame ht0
    exact ⟨_, hadmitted.exec_watchdog1 ht0 ht1, t.answered_takeWatchdog .rs1 true, hstatus,
      fun a ha => (hkept.readReg a ha).trans (t.readReg_respondOk a).symm, hkept.readEb rfl, hkept.cfg.trans hcfg,
      hkept.pending.trans hpending⟩

end Sys2Proof.Machine

/-!
PROOFS. The statements of the echo model (42_echo). A native tick is read off field by field; what EINIT, ECLR and ETICK
make of the state is then a change of the echo model with its frame. Silence and the hold of the length are invariants
of the tick, and the filter blend reaches nothing, because a tick passes it through to its own latch.
-/

namespace Sys2Proof.Machine

/-! ## One native tick, field by field (R148) -/

section NativeTick

variable (e : Echo) (inL inR : F)

@[simp] theorem Echo.tick_firh : (e.tick inL inR).1.firh = e.nextHistory := rfl

@[simp] theorem Echo.tick_effDelay : (e.tick inL inR).1.effDelay = eff e.cfgDelay e.modDelay := rfl

@[simp] theorem Echo.tick_effFb : (e.tick inL inR).1.effFb = eff e.cfgFb e.modFb := rfl

@[simp] theorem Echo.tick_eb :
    (e.tick inL inR).1.eb = e.eb.write e.nextIndex (BitVec.ofInt 16 (e.writeBack inL inR)) := rfl

@[simp] theorem Echo.tick_output : (e.tick inL inR).2 = (q2f e.filtered, fsub fZero (q2f e.filtered)) := rfl

theorem Echo.getEff_tick (p : EchoParam) : (e.tick inL inR).1.getEff p = eff (e.getCfg p) (e.getMod p) := by
  cases p <;> rfl

theorem Echo.candidate_le_cap : e.candidate ≤ e.cap.toNat := Nat.min_le_left _ _

/-- The length of a tick is the old one or the candidate, so it fits its register. -/
theorem Echo.nextLen_lt : e.nextLen < 2 ^ 32 := by
  unfold Echo.nextLen
  split
  · exact e.candidate_le_cap.trans_lt e.cap.isLt
  · exact e.len.isLt

@[simp] theorem Echo.toNat_tick_cand : (e.tick inL inR).1.cand.toNat = e.candidate :=
  Nat.mod_eq_of_lt (e.candidate_le_cap.trans_lt e.cap.isLt)

@[simp] theorem Echo.toNat_tick_len : (e.tick inL inR).1.len.toNat = e.nextLen := Nat.mod_eq_of_lt e.nextLen_lt

theorem Echo.toNat_tick_widx (h : 1 ≤ e.len.toNat) : (e.tick inL inR).1.widx.toNat = e.nextIndex :=
  Nat.mod_eq_of_lt ((Nat.mod_lt _ h).trans e.len.isLt)

theorem Echo.nextLen_of_nextIndex_ne_zero (h : e.nextIndex ≠ 0) : e.nextLen = e.len.toNat :=
  if_neg fun hwrap => h hwrap.2

end NativeTick

/-- A change of the echo model, in registers and EB words that the frame gives it. -/
theorem State.withEcho_frame {s : State} {e : Echo} {regs : Reg → Prop} {eb : Nat → Prop}
    (hreg : ∀ a, ¬ regs a → { s with echo := e }.readReg a = s.readReg a)
    (heb : ∀ i, ¬ eb i → e.eb.read i = s.echo.eb.read i) : Frame s { s with echo := e } regs eb nothing :=
  ⟨hreg, heb, fun _ _ => rfl, rfl, rfl, rfl, rfl, rfl⟩

/-! ## EINIT (R141 to R144) -/

/-- What a successful EINIT makes of the state. -/
def State.constructEcho (s : State) : State :=
  { s with echo := s.echo.construct s.arg0 s.arg1, status := s.status.setReady .echo true }

theorem exec_einit_args {s : State} (hlive : s.status.fatal = false)
    (hargs : s.arg0 ≠ 0#32 ∧ s.arg1 ≠ 0#32 ∧ s.arg1.toNat ≤ s.cfg.ebWords)
    (hcap : echoRequired s.arg0.toNat ≤ s.arg1.toNat) : exec .einit s = .next s.constructEcho.respondOk := by
  show execEinit s = _
  rw [execEinit, checkLive_of_live hlive, constructorArgs_iff.2 hargs, checkFatal_true, decide_eq_true hcap,
    checkFatal_true, State.constructEcho]

/-- The increment is at most the rate, so it fits its register (R143). -/
theorem Echo.toNat_construct_inc (e : Echo) (rate cap : Word) :
    (e.construct rate cap).inc.toNat = max 1 (16 * rate.toNat / 1000) := by
  have hrate := rate.isLt
  refine Nat.mod_eq_of_lt ?_
  unfold echoIncrement Config.echoIncMs
  omega

theorem State.constructEcho_frame (s : State) :
    Frame s s.constructEcho Reg.writtenByEinit (· < s.arg1.toNat) nothing := by
  refine (State.withEcho_frame (fun a ha => ?_) fun i hi =>
    s.echo.eb.read_fill_above (Nat.le_of_not_lt hi) 0#16).trans <|
      (State.withStatus_frame { s with echo := s.echo.construct s.arg0 s.arg1 } _).mono
        (fun _ ha => ha ▸ trivial) (fun _ => False.elim) fun _ => id
  cases a with
  | eRate | eCap | eInc | eLen | eWidx | eCand | eeff | firc | firh => exact absurd trivial ha
  | ecfg p | emod p => cases p <;> rfl
  | rs u k => cases u <;> rfl
  | _ => rfl

/-- Settles O17: the model is `Echo.construct` of the two arguments. -/
theorem einitConstructsEcho : Obligations.EinitConstructsEcho := by
  intro s hlive h0 h1 hwords hcap
  refine ⟨_, exec_einit_args hlive ⟨h0, h1, hwords⟩ hcap, State.answered_respondOk _, rfl, rfl,
    s.echo.toNat_construct_inc _ _, rfl, rfl, rfl, fun p => ?_, fun i => ?_, fun i => ?_,
    fun i hi => s.echo.eb.read_fill_below hi 0#16, rfl, s.constructEcho_frame.respondOk⟩
  · cases p <;> rfl
  · exact congrArg (BitVec.signExtend 32) (Bank.get_replicate 0#16 i)
  · fin_cases i <;> rfl

/-! ## ECLR (R155) -/

theorem exec_eclr_ready {s : State} (hlive : s.status.fatal = false) (hready : s.status.eReady = true)
    (hcap : s.echo.cap.toNat ≤ s.cfg.ebWords) : exec .eclr s = .next { s with echo := s.echo.clear }.respondOk := by
  show execEclr s = _
  rw [execEclr, checkLive_of_live hlive, hready, check_true, decide_eq_true hcap, requireRam_true]

theorem State.clearEcho_frame (s : State) :
    Frame s { s with echo := s.echo.clear } (fun a => ∃ i, a = .firh i) (· < s.echo.cap.toNat) nothing := by
  refine State.withEcho_frame (fun a ha => ?_) fun i hi => s.echo.eb.read_fill_above (Nat.le_of_not_lt hi) 0#16
  cases a with
  | firh i => exact absurd ⟨i, rfl⟩ ha
  | ecfg p | emod p | eeff p => cases p <;> rfl
  | rs u k => cases u <;> rfl
  | _ => rfl

/-- Settles O23: the model is `Echo.clear` of what it was. -/
theorem eclrClearsDelayLines : Obligations.EclrClearsDelayLines := by
  intro s hlive hready hcap
  refine ⟨_, exec_eclr_ready hlive hready hcap, State.answered_respondOk _,
    fun i hi => s.echo.eb.read_fill_below hi 0#16, fun i => ?_, s.clearEcho_frame.respondOk⟩
  exact congrArg (BitVec.signExtend 32) (Bank.get_replicate 0#16 i)

/-! ## ETICK (R146 to R152) -/

/-- What an ETICK past its checks makes of the state: one native tick on the input pair, its outputs in S2 and S3. -/
def State.tickEcho (s : State) : State :=
  { s with echo := (s.echo.tick s.samples.r0 s.samples.r1).1 }.setEchoOut
    (s.echo.tick s.samples.r0 s.samples.r1).2.1 (s.echo.tick s.samples.r0 s.samples.r1).2.2

theorem exec_etick_ready {s : State} (hlive : s.status.fatal = false) (hready : s.status.eReady = true)
    (hring : s.echoRingOk = true) : exec .etick s = .next s.tickEcho.respondOk := by
  show execEtick s = _
  rw [execEtick, checkLive_of_live hlive, hready, check_true, hring, requireRam_true, State.tickEcho]

@[simp] theorem State.tickEcho_cfg (s : State) : s.tickEcho.cfg = s.cfg := State.setEchoOut_cfg _ _ _

@[simp] theorem State.tickEcho_echo (s : State) :
    s.tickEcho.echo = (s.echo.tick s.samples.r0 s.samples.r1).1 := State.setEchoOut_echo _ _ _

/-- With its settings kept, an echo model changes only registers that ETICK writes. -/
theorem State.readReg_withEcho {s : State} {e : Echo} (h : s.echo.SameSettings e) {a : Reg}
    (ha : ¬ a.writtenByEtick) : { s with echo := e }.readReg a = s.readReg a := by
  cases a with
  | ecfg p => exact h.getCfg p
  | emod p => exact h.getMod p
  | firc i => exact congrArg (fun b : Bank 8 => (b.get i).signExtend 32) h.firc
  | eRate => exact h.rate
  | eCap => exact h.cap
  | eInc => exact h.inc
  | eLen | eWidx | eCand | eeff | firh => exact absurd trivial ha
  | rs u k => cases u <;> rfl
  | _ => rfl

theorem State.tickEcho_frame (s : State) :
    Frame s s.tickEcho Reg.writtenByEtick (· = s.echo.nextIndex) nothing := by
  refine Frame.trans (State.withEcho_frame (fun a => State.readReg_withEcho (s.echo.tick_sameSettings _ _))
    fun i hi => s.echo.eb.read_write_other hi _) (State.setRsOut_frame _ .rs0 _ _ fun i hi => ?_).withRams
  obtain ⟨-, hi⟩ | ⟨hu, -⟩ := hi
  · exact hi
  · nomatch hu

/-- Settles O19: index, candidate and length fit their registers, and the one write is at the new index. -/
theorem etickAdvancesAndStoresOneWord : Obligations.EtickAdvancesAndStoresOneWord := by
  intro s hlive hready hring
  obtain ⟨hlen, -⟩ := s.echoRingOk_iff.1 hring
  exact ⟨_, exec_etick_ready hlive hready hring, State.answered_respondOk _, s.echo.toNat_tick_widx _ _ hlen,
    s.echo.toNat_tick_cand _ _, s.echo.toNat_tick_len _ _, s.echo.getEff_tick _ _, rfl, s.tickEcho_frame.respondOk⟩

theorem Bank.get_shiftIn_succ {w : Nat} (b : Bank w) (v : BitVec w) :
    ∀ (k : Fin 8) (h : k.val + 1 < 8), (b.shiftIn v).get ⟨k.val + 1, h⟩ = b.get k
  | 0, _ | 1, _ | 2, _ | 3, _ | 4, _ | 5, _ | 6, _ => rfl

theorem State.tickEcho_samples {s : State} {l r : F} (h : (s.echo.tick s.samples.r0 s.samples.r1).2 = (l, r)) :
    s.tickEcho.samples = { s.samples with r2 := l, r3 := r } := by
  rw [State.tickEcho, State.setEchoOut_samples, h]

theorem State.readReg_tickEcho {s : State} {l r : F} (h : (s.echo.tick s.samples.r0 s.samples.r1).2 = (l, r)) :
    s.tickEcho.readReg (.sample 2) = l ∧ s.tickEcho.readReg (.sample 3) = r := by
  rw [State.readReg, State.readReg, State.tickEcho_samples h]
  exact ⟨rfl, rfl⟩

/-- One tap of the filter of a tick: the product of its coefficient and its history entry, shifted right by 7 (R150). -/
def Echo.tap (e : Echo) (i : Fin 8) : Int := (e.firc.get i).toInt * (e.nextHistory.get i).toInt / 128

theorem Echo.tap_eq (e : Echo) (i : Fin 8) :
    e.tap i = (e.firc.get i).toInt * (e.nextHistory.get i).toInt / 128 := rfl

theorem Echo.filtered_eq_taps (e : Echo) :
    e.filtered = sat16 (wrap16 (e.tap 0 + e.tap 1 + e.tap 2 + e.tap 3 + e.tap 4 + e.tap 5 + e.tap 6) + e.tap 7) := by
  have hshift : (2 : Int) ^ Config.firShift = 128 := by decide
  unfold Echo.filtered firSum firProduct
  rw [hshift]
  rfl

/-- Settles O20: the latched registers of the tick are what its read, its filter and its write used. -/
theorem etickFiltersAndFeedsBack : Obligations.EtickFiltersAndFeedsBack := by
  intro s hlive hready hring
  obtain ⟨hlen, -⟩ := s.echoRingOk_iff.1 hring
  obtain ⟨houtL, houtR⟩ := State.readReg_tickEcho (s.echo.tick_output s.samples.r0 s.samples.r1)
  refine ⟨_, exec_etick_ready hlive hready hring, ?_⟩
  simp only [State.readEb, State.readReg_respondOk, State.respondOk_echo, houtL, houtR, State.tickEcho_echo,
    Echo.toNat_tick_len, Echo.toNat_tick_widx _ _ _ hlen, Echo.tick_firh, Echo.tick_eb, Echo.tick_effDelay,
    Echo.tick_effFb, Ram.read_write_same]
  simp only [← Echo.tap_eq, ← Echo.filtered_eq_taps, Echo.writeBack, monoQ, and_true]
  refine ⟨?_, s.echo.firh.get_shiftIn_succ _⟩
  rw [Echo.nextHistory, Echo.readIndex]
  rfl

/-! ## The length of the ring (R153) -/

/-- Only a tick at a wrap point changes the length, and it takes the candidate of that tick. -/
theorem Echo.tick_len_ne {e : Echo} {inL inR : F} (h : (e.tick inL inR).1.len ≠ e.len) :
    (e.tick inL inR).1.widx = 0#32 ∧ (e.tick inL inR).1.len = (e.tick inL inR).1.cand := by
  have hnext : e.nextLen ≠ e.len.toNat := fun heq =>
    h (BitVec.eq_of_toNat_eq ((e.toNat_tick_len inL inR).trans heq))
  obtain ⟨hcand, hwrap⟩ : e.candidate ≠ e.len.toNat ∧ e.nextIndex = 0 := by
    by_contra hstay
    exact hnext (if_neg hstay)
  refine ⟨congrArg (BitVec.ofNat 32) hwrap, BitVec.eq_of_toNat_eq ?_⟩
  rw [e.toNat_tick_len, e.toNat_tick_cand]
  exact if_pos ⟨hcand, hwrap⟩

/-- Below the last index of the ring a tick counts the index up and keeps the length. -/
theorem Echo.tick_inside {e : Echo} (inL inR : F) (h : e.widx.toNat + 1 < e.len.toNat) :
    (e.tick inL inR).1.widx.toNat = e.widx.toNat + 1 ∧ (e.tick inL inR).1.len = e.len := by
  have hidx : e.nextIndex = e.widx.toNat + 1 := Nat.mod_eq_of_lt h
  refine ⟨(e.toNat_tick_widx inL inR (by omega)).trans hidx, BitVec.eq_of_toNat_eq ?_⟩
  rw [e.toNat_tick_len, e.nextLen_of_nextIndex_ne_zero (by omega)]

/-- ETICK changes the echo model by one native tick, or not at all. -/
theorem exec_etick_echo {s t : State} (h : exec .etick s = .next t) :
    t.echo = s.echo ∨ t.echo = (s.echo.tick s.samples.r0 s.samples.r1).1 := by
  cases exec_effect h with
  | answer => exact .inl rfl
  | constructorFails _ e u => exact .inl (s.takeError_echo e (some u))
  | etick e l r _ _ htick => exact .inr (congrArg Prod.fst htick).symm

/-- From a wrap point on the index counts the ticks, until the traversal is complete. -/
theorem Echo.traversal {f : Nat → Echo} (h0 : (f 0).widx = 0#32)
    (hf : ∀ k, ∃ (e : Echo) (inL inR : F),
      e.len = (f k).len ∧ e.widx = (f k).widx ∧ f (k + 1) = (e.tick inL inR).1) :
    ∀ k, k < (f 0).len.toNat → (f k).widx.toNat = k ∧ (f k).len = (f 0).len
  | 0, _ => ⟨by rw [h0]; rfl, rfl⟩
  | k + 1, hk => by
    obtain ⟨hidx, hlen⟩ := Echo.traversal h0 hf k (by omega)
    obtain ⟨e, inL, inR, elen, ewidx, hnext⟩ := hf k
    rw [← ewidx] at hidx
    rw [← elen] at hlen
    obtain ⟨hidx', hlen'⟩ := e.tick_inside inL inR (by rw [hidx, hlen]; exact hk)
    rw [hnext, hidx', hlen', hidx, hlen]
    exact ⟨rfl, rfl⟩

/-- Settles O22: in a traversal the index runs through the ring, and it is 0 at its start only. -/
theorem lengthChangesOnlyAtWrap : Obligations.LengthChangesOnlyAtWrap := by
  refine ⟨fun e inL inR => Echo.tick_len_ne, fun s t h hne => ?_, fun f h0 hf k hk =>
    (Echo.traversal h0 hf k hk).2⟩
  obtain hecho | hecho := exec_etick_echo h
  · exact absurd (congrArg Echo.len hecho) hne
  · rw [hecho] at hne ⊢
    exact Echo.tick_len_ne hne

/-! ## Silence (R155, R156) -/

theorem Bank.shiftIn_replicate {w : Nat} (v : BitVec w) : (Bank.replicate v).shiftIn v = Bank.replicate v := rfl

theorem firProduct_zero (c : BitVec 8) : firProduct c 0#16 = 0 := by
  simp [firProduct]

/-- Whatever the coefficients are, the filter answers 0 to a history of zeros. -/
theorem firSum_silent (c : Bank 8) : firSum c (Bank.replicate 0#16) = 0 := by
  have hclosed : sat16 (wrap16 (0 + 0 + 0 + 0 + 0 + 0 + 0) + 0) = 0 := by decide
  simp only [firSum, Bank.replicate, firProduct_zero]
  exact hclosed

theorem isZero_iff {x : F} : IsZero x ↔ fIsFinite x = true ∧ fReal x = 0 := by
  rw [fReal_eq_zero_iff, fIsFinite_iff]
  exact ⟨fun h => ⟨by rw [show fMag x = 0 from h]; decide, h⟩, And.right⟩

/-- A mono input of two zeros, of either sign, is 0. -/
theorem monoQ_silent {x y : F} (hx : IsZero x) (hy : IsZero y) : monoQ x y = 0 := by
  obtain ⟨hxfin, hx0⟩ := isZero_iff.1 hx
  obtain ⟨hyfin, hy0⟩ := isZero_iff.1 hy
  obtain ⟨hsum, hsum0⟩ := fadd_of_nonneg hxfin hyfin (by rw [hx0, hy0]; norm_num) (by rw [hx0, hy0]; norm_num)
  rw [hx0, hy0] at hsum0
  obtain ⟨hfin, h0⟩ := fmul_eq_zero hsum (by decide : fIsFinite fHalf = true) (.inl hsum0)
  rw [monoQ, f2q_of_finite hfin, h0, zero_mul, Int.zero_tdiv]
  decide

/-- The delay line up to the capacity and the filter history hold zeros. -/
def Echo.Silent (e : Echo) : Prop :=
  (∀ i, i < e.cap.toNat → e.eb.read i = 0#16) ∧ e.firh = Bank.replicate 0#16

theorem State.echoSilent_iff (s : State) : s.EchoSilent ↔ s.echo.Silent := Iff.rfl

theorem Echo.clear_silent (e : Echo) : e.clear.Silent :=
  ⟨fun _ hi => e.eb.read_fill_below hi 0#16, rfl⟩

theorem Echo.RingIn.clear {e : Echo} {words : Nat} (h : e.RingIn words) : e.clear.RingIn words := h

theorem Echo.RingIn.nextLen_bounds {e : Echo} {words : Nat} (h : e.RingIn words) :
    1 ≤ e.nextLen ∧ e.nextLen ≤ e.cap.toNat := by
  obtain ⟨hlen, hcap, -⟩ := h.tick 0#32 0#32
  rw [e.toNat_tick_len] at hlen hcap
  exact ⟨hlen, hcap⟩

section Silent

variable {e : Echo} {words : Nat}

/-- The delayed read lies in the ring, so a silent model shifts another zero into its history. -/
theorem Echo.Silent.nextHistory (h : e.Silent) (hring : e.RingIn words) :
    e.nextHistory = Bank.replicate 0#16 := by
  obtain ⟨hread, hfirh⟩ := h
  obtain ⟨hpos, hle⟩ := hring.nextLen_bounds
  rw [Echo.nextHistory, Echo.readIndex, hfirh, hread _ ((ringIndex_lt _ hpos).trans_le hle), Bank.shiftIn_replicate]

theorem Echo.Silent.filtered (h : e.Silent) (hring : e.RingIn words) : e.filtered = 0 := by
  rw [Echo.filtered, h.nextHistory hring, firSum_silent]

theorem Echo.Silent.tick_output (h : e.Silent) (hring : e.RingIn words) (inL inR : F) :
    (e.tick inL inR).2 = (fZero, fZero) := by
  have hzero : q2f 0 = fZero ∧ fsub fZero fZero = fZero := by decide +kernel
  rw [Echo.tick_output, h.filtered hring, hzero.1, hzero.2]

variable {inL inR : F}

theorem Echo.Silent.writeBack (h : e.Silent) (hring : e.RingIn words) (hL : IsZero inL) (hR : IsZero inR)
    (hfb : eff e.cfgFb e.modFb = fZero) : e.writeBack inL inR = 0 := by
  have hclosed : sat16 (0 + f2i (fmul fZero (i16ToF 0))) = 0 := by decide +kernel
  rw [Echo.writeBack, monoQ_silent hL hR, hfb, h.filtered hring, hclosed]

/-- With zero input and zero feedback the one word written is 0 again. -/
theorem Echo.Silent.tick (h : e.Silent) (hring : e.RingIn words) (hL : IsZero inL) (hR : IsZero inR)
    (hfb : eff e.cfgFb e.modFb = fZero) : (e.tick inL inR).1.Silent := by
  refine ⟨fun i hi => ?_, h.nextHistory hring⟩
  rw [e.tick_eb, h.writeBack hring hL hR hfb]
  by_cases hidx : i = e.nextIndex
  · rw [hidx, Ram.read_write_same]
    rfl
  · rw [Ram.read_write_other _ hidx]
    exact h.1 i hi

end Silent

theorem State.EchoOk.echoRingOk {s : State} (h : s.EchoOk) : s.echoRingOk = true := by
  obtain ⟨hlen, hcap, hwords, -⟩ := h
  exact s.echoRingOk_iff.2 ⟨hlen, hcap.trans hwords, hlen.trans hcap, hwords⟩

/-- Settles O24: a silent model reads zeros, so it filters, writes and answers zeros. -/
theorem silentEchoStaysSilent : Obligations.SilentEchoStaysSilent := by
  refine ⟨fun s hlive hready hok => ?_, fun s hlive hready hok hsilent hL hR hfb => ?_⟩
  · have ⟨_, _, hcap, _⟩ := hok
    exact ⟨_, exec_eclr_ready hlive hready hcap, s.echo.clear_silent, (s.echoOk_iff.1 hok).clear⟩
  · have hring := s.echoOk_iff.1 hok
    have hout := s.echoSilent_iff.1 hsilent |>.tick_output hring s.samples.r0 s.samples.r1
    refine ⟨_, exec_etick_ready hlive hready hok.echoRingOk, ?_, ?_, ?_, ?_⟩
    · rw [State.respondOk_samples, State.tickEcho_samples hout]
    · rw [State.respondOk_samples, State.tickEcho_samples hout]
    · rw [State.echoSilent_iff, State.respondOk_echo, State.tickEcho_echo]
      exact Echo.Silent.tick hsilent hring hL hR hfb
    · rw [State.echoOk_iff, State.respondOk_echo, State.tickEcho_echo, State.respondOk_cfg, State.tickEcho_cfg]
      exact hring.tick _ _

/-! ## The filter blend (R154) -/

/-- Another filter-blend parameter and latch in the echo model. -/
def Echo.withBlend (e : Echo) (cfgFilt modFilt effFilt : F) : Echo :=
  { e with cfgFilt := cfgFilt, modFilt := modFilt, effFilt := effFilt }

/-- Two echo models that differ in nothing but the filter blend. -/
def Echo.SameButBlend (e e' : Echo) : Prop := ∃ c m f, e' = e.withBlend c m f

/-- A native tick reads the filter blend for its own latch only. -/
theorem Echo.tick_withBlend (e : Echo) (c m f inL inR : F) :
    (e.withBlend c m f).tick inL inR = ((e.tick inL inR).1.withBlend c m (eff c m), (e.tick inL inR).2) := rfl

theorem Echo.SameButBlend.tick {e e' : Echo} (h : e.SameButBlend e') (inL inR : F) :
    (e.tick inL inR).1.SameButBlend (e'.tick inL inR).1 ∧ (e'.tick inL inR).2 = (e.tick inL inR).2 := by
  obtain ⟨c, m, f, rfl⟩ := h
  rw [Echo.tick_withBlend]
  exact ⟨⟨c, m, _, rfl⟩, rfl⟩

/-- The same state with another filter blend. -/
def State.withBlend (s : State) (c m f : F) : State := { s with echo := s.echo.withBlend c m f }

theorem sameButFilterBlend_iff {s t : State} : SameButFilterBlend s t ↔ ∃ c m f, t = s.withBlend c m f := by
  constructor
  · intro h
    exact ⟨_, _, _, h⟩
  · rintro ⟨c, m, f, rfl⟩
    rfl

theorem State.withBlend_same (s : State) (c m f : F) : SameButFilterBlend s (s.withBlend c m f) := rfl

/-! ### The resampler loop on related models -/

section Related

variable {σ : Type} {producer : σ → F → F → σ × F × F} {inL inR : F} {R : σ → σ → Prop}

/-- A producer that answers the same on related models, and leaves related models, takes the loop of R125 to the same
resampler, or to the watchdog, on both. -/
theorem rsLoop_related
    (hprod : ∀ m m', R m m' → R (producer m inL inR).1 (producer m' inL inR).1 ∧
      (producer m' inL inR).2 = (producer m inL inR).2) :
    ∀ fuel (r : Rs) (m m' : σ), R m m' → Option.Rel (fun p q => R p.2 q.2 ∧ q.1 = p.1)
      (rsLoop producer inL inR fuel r m) (rsLoop producer inL inR fuel r m') := by
  intro fuel
  induction fuel with
  | zero =>
    intro r m m' hm
    cases hle : fle r.period r.phase with
    | true =>
      simp only [rsLoop, hle, if_true]
      exact .none
    | false =>
      rw [rsLoop_exit 0 hle, rsLoop_exit 0 hle]
      exact .some ⟨hm, rfl⟩
  | succ fuel ih =>
    intro r m m' hm
    cases hle : fle r.period r.phase with
    | true =>
      obtain ⟨hnext, hout⟩ := hprod m m' hm
      rw [rsLoop_call fuel hle, rsLoop_call fuel hle, hout]
      exact ih _ _ _ hnext
    | false =>
      rw [rsLoop_exit _ hle, rsLoop_exit _ hle]
      exact .some ⟨hm, rfl⟩

/-- The output pair is the resampler's own, so it is the same on both models. -/
theorem rsProcess_related
    (hprod : ∀ m m', R m m' → R (producer m inL inR).1 (producer m' inL inR).1 ∧
      (producer m' inL inR).2 = (producer m inL inR).2) (r : Rs) {m m' : σ} (hm : R m m') :
    Option.Rel (fun p q => R p.2.1 q.2.1 ∧ q.1 = p.1 ∧ q.2.2 = p.2.2)
      (rsProcess producer r m inL inR) (rsProcess producer r m' inL inR) := by
  have hloop := rsLoop_related hprod Config.rsFuel { r with phase := fadd r.phase fOne } m m' hm
  unfold rsProcess
  revert hloop
  generalize rsLoop producer inL inR Config.rsFuel { r with phase := fadd r.phase fOne } m = p
  generalize rsLoop producer inL inR Config.rsFuel { r with phase := fadd r.phase fOne } m' = q
  rintro (⟨hrel, heq⟩ | _)
  · dsimp only
    rw [heq]
    exact .some ⟨hrel, rfl, rfl⟩
  · exact .none

end Related

theorem State.rsTick_rs0_eq_map (s : State) :
    s.rsTick .rs0 = (rsProcess Echo.tick s.rs0 s.echo s.samples.r0 s.samples.r1).map fun p =>
      { s with rs0 := p.1, echo := p.2.1 }.setEchoOut p.2.2.1 p.2.2.2 := by
  unfold State.rsTick
  cases rsProcess Echo.tick s.rs0 s.echo s.samples.r0 s.samples.r1 <;> rfl

theorem State.rsTick_rs1_eq_map (s : State) :
    s.rsTick .rs1 = (rsProcess Reverb.tick s.rs1 s.reverb s.samples.r0 s.samples.r1).map fun p =>
      { s with rs1 := p.1, reverb := p.2.1 }.setReverbOut p.2.2.1 p.2.2.2 := by
  unfold State.rsTick
  cases rsProcess Reverb.tick s.rs1 s.reverb s.samples.r0 s.samples.r1 <;> rfl

/-- A driving tick of either resampler reads the filter blend for its latch only. -/
theorem SameButFilterBlend.rsTick {s s' : State} (h : SameButFilterBlend s s') (u : RsId) :
    Option.Rel SameButFilterBlend (s.rsTick u) (s'.rsTick u) := by
  obtain ⟨c, m, f, rfl⟩ := sameButFilterBlend_iff.1 h
  cases u with
  | rs0 =>
    have hproc := rsProcess_related (R := Echo.SameButBlend) (fun _ _ hm => hm.tick s.samples.r0 s.samples.r1) s.rs0
      (m := s.echo) (m' := s.echo.withBlend c m f) ⟨c, m, f, rfl⟩
    rw [State.rsTick_rs0_eq_map, State.rsTick_rs0_eq_map]
    revert hproc
    show _ → Option.Rel _ (Option.map _ _)
      (Option.map _ (rsProcess Echo.tick s.rs0 (s.echo.withBlend c m f) s.samples.r0 s.samples.r1))
    generalize rsProcess Echo.tick s.rs0 s.echo s.samples.r0 s.samples.r1 = p
    generalize rsProcess Echo.tick s.rs0 (s.echo.withBlend c m f) s.samples.r0 s.samples.r1 = q
    rintro (@⟨⟨r, e, l, o⟩, ⟨r', e', l', o'⟩, ⟨c', m', f', he⟩, hr, hout⟩ | _)
    · obtain rfl : e' = e.withBlend c' m' f' := he
      obtain rfl : r' = r := hr
      obtain ⟨rfl, rfl⟩ : l' = l ∧ o' = o := Prod.mk.inj hout
      exact .some (State.withBlend_same _ c' m' f')
    · exact .none
  | rs1 =>
    rw [State.rsTick_rs1_eq_map, State.rsTick_rs1_eq_map]
    show Option.Rel _ (Option.map _ (rsProcess Reverb.tick s.rs1 s.reverb s.samples.r0 s.samples.r1))
      (Option.map _ (rsProcess Reverb.tick s.rs1 s.reverb s.samples.r0 s.samples.r1))
    cases rsProcess Reverb.tick s.rs1 s.reverb s.samples.r0 s.samples.r1 with
    | none => exact .none
    | some p => exact .some (State.withBlend_same _ c m f)

/-! ### Commands on two such states -/

/-- Where one meaning answers a next state, the other one answers one that differs only in the filter blend. -/
def BlendRelated (k k' : Result) : Prop := ∀ t, k = .next t → ∃ t', k' = .next t' ∧ SameButFilterBlend t t'

section BlendRelated

variable {s s' t t' : State} {k k' : Result}

theorem BlendRelated.next (h : SameButFilterBlend t t') : BlendRelated (.next t) (.next t') := by
  intro v hv
  obtain rfl := Host.Outcome.next.inj hv
  exact ⟨t', rfl, h⟩

theorem SameButFilterBlend.respond (h : SameButFilterBlend s s') (r : Response) (v : Word) :
    SameButFilterBlend (s.respond r v) (s'.respond r v) := by
  obtain ⟨c, m, f, rfl⟩ := sameButFilterBlend_iff.1 h
  rfl

theorem SameButFilterBlend.takeError (h : SameButFilterBlend s s') (e : Response) (u : Option UnitId) :
    SameButFilterBlend (s.takeError e u) (s'.takeError e u) := by
  obtain ⟨c, m, f, rfl⟩ := sameButFilterBlend_iff.1 h
  cases u <;> rfl

theorem SameButFilterBlend.mix (h : SameButFilterBlend s s') : SameButFilterBlend s.mix s'.mix := by
  obtain ⟨c, m, f, rfl⟩ := sameButFilterBlend_iff.1 h
  exact (s.mix).withBlend_same c m f

theorem SameButFilterBlend.takeWatchdog (h : SameButFilterBlend s s') (u : RsId) (b : Bool) :
    SameButFilterBlend (s.takeWatchdog u b) (s'.takeWatchdog u b) := by
  obtain ⟨c, m, f, rfl⟩ := sameButFilterBlend_iff.1 h
  cases u <;> cases b <;> rfl

theorem SameButFilterBlend.setRs (h : SameButFilterBlend s s') (u : RsId) (x : Rs) :
    SameButFilterBlend (s.setRs u x) (s'.setRs u x) := by
  obtain ⟨c, m, f, rfl⟩ := sameButFilterBlend_iff.1 h
  cases u <;> rfl

theorem SameButFilterBlend.constructRs (h : SameButFilterBlend s s') (u : RsId) (x : Rs) :
    SameButFilterBlend (s.constructRs u x) (s'.constructRs u x) := by
  obtain ⟨c, m, f, rfl⟩ := sameButFilterBlend_iff.1 h
  cases u <;> rfl

/-- WR writes the word of the port, to the filter blend as to every other register. -/
theorem SameButFilterBlend.writeReg (h : SameButFilterBlend s s') (r : Reg) :
    SameButFilterBlend (s.writeReg r s.port.wdata) (s'.writeReg r s'.port.wdata) := by
  obtain ⟨c, m, f, rfl⟩ := sameButFilterBlend_iff.1 h
  cases r with
  | ecfg p | emod p => cases p <;> rfl
  | _ => rfl

theorem BlendRelated.check {ok : Bool} {e : Response} (h : SameButFilterBlend s s') (hk : BlendRelated k k') :
    BlendRelated (check ok e s k) (check ok e s' k') := by
  cases ok with
  | false => exact .next (h.takeError e none)
  | true => exact hk

theorem BlendRelated.checkFatal {ok : Bool} {e : Response} {u : UnitId} (h : SameButFilterBlend s s')
    (hk : BlendRelated k k') : BlendRelated (checkFatal ok e u s k) (checkFatal ok e u s' k') := by
  cases ok with
  | false => exact .next (h.takeError e (some u))
  | true => exact hk

theorem SameButFilterBlend.status (h : SameButFilterBlend s s') : s'.status = s.status := by
  obtain ⟨c, m, f, rfl⟩ := sameButFilterBlend_iff.1 h
  rfl

theorem BlendRelated.checkLive (h : SameButFilterBlend s s') (hk : BlendRelated k k') :
    BlendRelated (checkLive s k) (checkLive s' k') := by
  unfold Machine.checkLive
  rw [h.status]
  exact .check h hk

theorem BlendRelated.requireRam {ok : Bool} {f : Fault} (hk : BlendRelated k k') :
    BlendRelated (requireRam ok f k) (requireRam ok f k') := by
  cases ok with
  | false => nofun
  | true => exact hk

end BlendRelated

/-- The driving tick of RSTICK, without its checks. -/
def State.rstickRun (s : State) (u : RsId) : Result :=
  match s.rsTick u with
  | none => .next (s.takeWatchdog u false)
  | some t => .next t.respondOk

theorem SameButFilterBlend.rstickRun {s s' : State} (h : SameButFilterBlend s s') (u : RsId) :
    BlendRelated (s.rstickRun u) (s'.rstickRun u) := by
  have hrel := h.rsTick u
  unfold State.rstickRun
  revert hrel
  generalize s.rsTick u = o
  generalize s'.rsTick u = o'
  rintro (ht | _)
  · exact .next (ht.respond .ok 0#32)
  · exact .next (h.takeWatchdog u false)

/-- Each driving tick of FRAME, and its mix, starts from two such states (R205). -/
theorem SameButFilterBlend.frameRun {s s' : State} (h : SameButFilterBlend s s') :
    BlendRelated s.frameRun s'.frameRun := by
  have hrel := h.rsTick .rs0
  unfold State.frameRun
  revert hrel
  generalize s.rsTick .rs0 = o
  generalize s'.rsTick .rs0 = o'
  rintro (@⟨s1, s1', h1⟩ | _)
  · have hrel := h1.rsTick .rs1
    dsimp only
    revert hrel
    generalize s1.rsTick .rs1 = o
    generalize s1'.rsTick .rs1 = o'
    rintro (h2 | _)
    · exact .next (h2.mix.respond .ok 0#32)
    · exact .next (h1.takeWatchdog .rs1 true)
  · exact .next (h.takeWatchdog .rs0 true)

@[simp] theorem State.withBlend_cfg (s : State) (c m f : F) : (s.withBlend c m f).cfg = s.cfg := rfl

@[simp] theorem State.rs_withBlend (s : State) (c m f : F) (u : RsId) : (s.withBlend c m f).rs u = s.rs u := by
  cases u <;> rfl

/-- One passage through the checks of each command's meaning: no check reads the filter blend, and what runs past them
passes it on; EINIT and ETICK also give the latch its new value. -/
theorem exec_blendRelated {i : Instr} (hrd : ∀ a, i ≠ .rd a) (s : State) (c m f : F) :
    BlendRelated (exec i s) (exec i (s.withBlend c m f)) := by
  have h := s.withBlend_same c m f
  cases i with
  | nop => exact .next (h.respond .ok 0#32)
  | wr a =>
    refine .checkLive h ?_
    cases Reg.ofNumber a with
    | none => exact .next (h.takeError .range none)
    | some r => exact .check h (.next ((h.writeReg r).respond .ok 0#32))
  | rd a => exact absurd rfl (hrd a)
  | ebrd idx | wsrd idx => exact .check h (.next (h.respond .ok _))
  | ebwr idx | wswr idx => exact .checkLive h (.check h (.next (State.withBlend_same _ c m f)))
  | einit => exact .checkLive h (.checkFatal h (.checkFatal h (.next (State.withBlend_same _ c m fZero))))
  | rinit p =>
    refine .checkLive h ?_
    rw [State.withBlend_cfg]
    cases s.cfg.presets[p]? with
    | none => exact .next (h.takeError .range none)
    | some preset => exact .checkFatal h (.checkFatal h (.next (State.withBlend_same _ c m f)))
  | rsinit u =>
    exact .checkLive h (.checkFatal h (.next ((h.constructRs u (Rs.construct s.arg0 s.arg1)).respond .ok 0#32)))
  | rsclr u =>
    refine .checkLive h (.check h (.next ?_))
    rw [State.rs_withBlend]
    exact (h.setRs u (s.rs u).clear).respond .ok 0#32
  | eclr | rclr | rtick => exact .checkLive h (.check h (.requireRam (.next (State.withBlend_same _ c m f))))
  | etick => exact .checkLive h (.check h (.requireRam (.next (State.withBlend_same _ c m (eff c m)))))
  | rstick u => exact .checkLive h (.check h (.requireRam (h.rstickRun u)))
  | mix => exact .checkLive h (.next (h.mix.respond .ok 0#32))
  | frame => exact .checkLive h (.check h (.requireRam (.requireRam h.frameRun)))

/-- Settles O25: the second state is the first one with another filter blend, which `exec_blendRelated` follows through
every command. -/
theorem filterBlendInfluencesNothing : Obligations.FilterBlendInfluencesNothing := by
  intro i s s' t hrd h hexec
  obtain ⟨c, m, f, rfl⟩ := sameButFilterBlend_iff.1 h
  exact exec_blendRelated hrd s c m f t hexec

end Sys2Proof.Machine

/-!
PROOFS. The statements of the reverb model (43_reverb). Every stage of the network writes one ring word through the
cursor; a property of the model that all such writes keep is followed through the eight stages of R181 once, stage by
stage: here the words no stage writes, and silence. The cursor and an address enter the physical index by their sum only.
-/

namespace Sys2Proof.Machine

/-! ## The stages (R182 to R184) -/

section Stages

variable (v : Reverb) (m d : Word) (x g : F)

theorem Reverb.w_wset_same (a : Int) : (v.wset a x).w a = x := Ram.read_write_same _ _ _

theorem Reverb.read_wset_other (a : Int) {i : Nat} (h : i ≠ v.index a) : (v.wset a x).ws.read i = v.ws.read i :=
  Ram.read_write_other _ h _

theorem Reverb.reflect_eq_wset :
    v.reflect x d m = v.wset m.toNat
      (fadd (fmul (fsub (fadd x (fmul (v.w d.toNat) v.gains.wall)) (v.w ((m.toNat : Int) - 1))) v.gains.iir)
        (v.w ((m.toNat : Int) - 1))) := by
  simp only [Reverb.reflect]

theorem Reverb.apf_eq_wset :
    (v.apf x m d g).1 = v.wset m.toNat (fsub x (fmul g (v.w ((m.toNat : Int) - (d.toNat : Int))))) := by
  simp only [Reverb.apf]

theorem Reverb.apf_output :
    (v.apf x m d g).2 =
      fadd (fmul (fsub x (fmul g (v.w ((m.toNat : Int) - (d.toNat : Int))))) g)
        (v.w ((m.toNat : Int) - (d.toNat : Int))) := by
  simp only [Reverb.apf]

theorem Reverb.comb_eq (a1 a2 a3 a4 : Word) :
    v.comb a1 a2 a3 a4 =
      fadd (fadd (fadd (fmul v.gains.comb1 (v.w a1.toNat)) (fmul v.gains.comb2 (v.w a2.toNat)))
        (fmul v.gains.comb3 (v.w a3.toNat))) (fmul v.gains.comb4 (v.w a4.toNat)) := by
  rw [Reverb.comb]

end Stages

/-- Settles O28: a stage is one write through the cursor, of the value its equation names. -/
theorem networkStagesFollowTheirEquations : Obligations.NetworkStagesFollowTheirEquations := by
  refine fun r x g d m a1 a2 a3 a4 => ⟨⟨?_, fun i hi => ?_, r.reflect_eq x d m⟩, r.comb_eq a1 a2 a3 a4,
    ?_, r.apf_output m d x g, fun i hi => ?_, r.apf_eq x m d g⟩
  · rw [r.reflect_eq_wset, r.w_wset_same]
  · rw [r.reflect_eq_wset, r.read_wset_other _ _ hi]
  · rw [r.apf_eq_wset, r.w_wset_same]
  · rw [r.apf_eq_wset, r.read_wset_other _ _ hi]

/-! ## The cursor (R178) -/

/-- The advanced cursor fits its register. -/
theorem Reverb.toNat_tick_cur (v : Reverb) (inL inR : F) (h : 1 ≤ v.ring.toNat) :
    (v.tick inL inR).1.cur.toNat = (v.cur.toNat + 1) % v.ring.toNat := by
  rw [v.tick_cur]
  exact Nat.mod_eq_of_lt ((Nat.mod_lt _ h).trans v.ring.isLt)

/-- The physical index of an address depends on the cursor modulo the ring only. -/
theorem Reverb.index_congr {v v' : Reverb} {a a' : Int} (hring : v'.ring = v.ring)
    (h : (v'.cur.toNat : Int) + a' ≡ v.cur.toNat + a [ZMOD v.ring.toNat]) : v'.index a' = v.index a := by
  rw [Reverb.index, Reverb.index, hring, ringIndex, ringIndex, h]

/-- A native tick moves the cursor by one word of the ring, and so the address below takes an address's place. -/
theorem Reverb.index_tick (v : Reverb) (inL inR : F) (a : Int) (h : 1 ≤ v.ring.toNat) :
    (v.tick inL inR).1.index (a - 1) = v.index a := by
  refine Reverb.index_congr (v.tick_ring inL inR) ?_
  rw [v.toNat_tick_cur inL inR h]
  push_cast
  calc ((v.cur.toNat : Int) + 1) % v.ring.toNat + (a - 1)
      ≡ v.cur.toNat + 1 + (a - 1) [ZMOD v.ring.toNat] := (Int.mod_modEq _ _).add_right _
    _ = v.cur.toNat + a := by ring

/-- Settles O29, by induction on the number of ticks. -/
theorem cursorTurnsAddressesIntoDelays : Obligations.CursorTurnsAddressesIntoDelays := by
  intro v inL inR m k h
  induction k with
  | zero => exact congrArg v.index (sub_zero m)
  | succ k ih =>
    have hring : 1 ≤ (v.afterTicks inL inR k).ring.toNat := (v.afterTicks_sameSettings inL inR k).ring ▸ h
    rw [v.afterTicks_succ, ← ih, ← Reverb.index_tick _ inL inR _ hring]
    congr 1
    push_cast
    ring

/-! ## RINIT (R173 to R176) -/

theorem gainOf_map {α β : Type} (f : α → β) (g : Gains α) (k : GainId) : gainOf (g.map f) k = f (gainOf g k) := by
  cases k <;> rfl

theorem lineOf_map {α β : Type} (f : α → β) (l : Lines α) (k : LineId) : lineOf (l.map f) k = f (lineOf l k) := by
  cases k <;> rfl

theorem toList_eq_map_lineOf {α : Type} (l : Lines α) : l.toList = LineId.all.map (lineOf l) := rfl

theorem presetFits_of_lineOf {p : Preset} {rate ring : Nat} (h : ∀ l, scaleLine rate (lineOf p.lines l) < ring) :
    presetFits p rate ring = true := by
  refine List.all_eq_true.2 fun a ha => decide_eq_true ?_
  obtain ⟨l, -, rfl⟩ := List.mem_map.1 (toList_eq_map_lineOf p.lines ▸ ha)
  exact h l

/-- A change of the reverb model, in registers and WS words that the frame gives it. -/
theorem State.withReverb_frame {s : State} {v : Reverb} {regs : Reg → Prop} {ws : Nat → Prop}
    (hreg : ∀ a, ¬ regs a → { s with reverb := v }.readReg a = s.readReg a)
    (hws : ∀ i, ¬ ws i → v.ws.read i = s.reverb.ws.read i) : Frame s { s with reverb := v } regs nothing ws :=
  ⟨hreg, fun _ _ => rfl, hws, rfl, rfl, rfl, rfl, rfl⟩

/-- What a successful RINIT makes of the state. -/
def State.constructReverb (s : State) (p : Nat) (preset : Preset) : State :=
  { s with
    reverb := s.reverb.construct p preset s.arg0 s.arg1 (reverbRing s.cfg.presets s.arg0.toNat)
    status := s.status.setReady .reverb true }

theorem exec_rinit_args {s : State} {p : Nat} {preset : Preset} (hlive : s.status.fatal = false)
    (hp : s.cfg.presets[p]? = some preset) (hargs : s.arg0 ≠ 0#32 ∧ s.arg1 ≠ 0#32 ∧ s.arg1.toNat ≤ s.cfg.wsWords)
    (hcap : reverbRing s.cfg.presets s.arg0.toNat ≤ s.arg1.toNat)
    (hfits : presetFits preset s.arg0.toNat (reverbRing s.cfg.presets s.arg0.toNat) = true) :
    exec (.rinit p) s = .next (s.constructReverb p preset).respondOk := by
  show execRinit p s = _
  rw [execRinit, checkLive_of_live hlive, hp]
  dsimp only
  rw [constructorArgs_iff.2 hargs, checkFatal_true, hfits, decide_eq_true hcap, Bool.and_true, checkFatal_true,
    State.constructReverb]

theorem State.constructReverb_frame (s : State) (p : Nat) (preset : Preset) :
    Frame s (s.constructReverb p preset) Reg.writtenByRinit nothing (· < s.arg1.toNat) := by
  refine (State.withReverb_frame (fun a ha => ?_) fun i hi =>
    s.reverb.ws.read_fill_above (Nat.le_of_not_lt hi) fZero).trans <|
      (State.withStatus_frame { s with reverb := s.reverb.construct p preset s.arg0 s.arg1 _ } _).mono
        (fun _ ha => ha ▸ trivial) (fun _ => id) fun _ => False.elim
  cases a with
  | rRate | rCap | rPreset | rRing | rCur | gain | line => exact absurd trivial ha
  | rs u k => cases u <;> rfl
  | _ => rfl

/-- Settles O26: the model is `Reverb.construct`, whose ring and addresses lie below the capacity and so fit their
registers. -/
theorem rinitConstructsReverb : Obligations.RinitConstructsReverb := by
  intro s p q hlive hp h0 h1 hwords ring hcap hfits
  have hring : ring < 2 ^ 32 := hcap.trans_lt s.arg1.isLt
  refine ⟨_, exec_rinit_args hlive hp ⟨h0, h1, hwords⟩ hcap (presetFits_of_lineOf hfits), State.answered_respondOk _,
    rfl, rfl, rfl, Nat.mod_eq_of_lt hring, rfl, gainOf_map _ q.gains, fun l => ?_,
    fun i hi => s.reverb.ws.read_fill_below hi fZero, rfl, (s.constructReverb_frame p q).respondOk⟩
  have hline := lineOf_map (fun a => BitVec.ofNat 32 (scaleLine s.arg0.toNat a)) q.lines l
  exact (congrArg BitVec.toNat hline).trans (Nat.mod_eq_of_lt ((hfits l).trans hring))

/-! ## RCLR (R185) -/

theorem exec_rclr_ready {s : State} (hlive : s.status.fatal = false) (hready : s.status.rReady = true)
    (hcap : s.reverb.cap.toNat ≤ s.cfg.wsWords) :
    exec .rclr s = .next { s with reverb := s.reverb.clear }.respondOk := by
  show execRclr s = _
  rw [execRclr, checkLive_of_live hlive, hready, check_true, decide_eq_true hcap, requireRam_true]

theorem Reverb.read_clear (v : Reverb) {i : Nat} (h : i < v.cap.toNat) : v.clear.ws.read i = fZero :=
  v.ws.read_fill_below h fZero

theorem State.clearReverb_frame (s : State) :
    Frame s { s with reverb := s.reverb.clear } nothing nothing (· < s.reverb.cap.toNat) :=
  State.withReverb_frame (fun a _ => s.readReg_withWs _ a) fun _ hi =>
    s.reverb.ws.read_fill_above (Nat.le_of_not_lt hi) fZero

/-- Settles O30: the model is `Reverb.clear` of what it was. -/
theorem rclrClearsWorkspace : Obligations.RclrClearsWorkspace :=
  fun s hlive hready hcap => ⟨_, exec_rclr_ready hlive hready hcap, State.answered_respondOk _,
    fun _ => s.reverb.read_clear, s.clearReverb_frame.respondOk⟩

/-! ## RTICK (R180, R181) -/

/-- `v'` comes from `v` by writes through the same cursor, none of them to word `i`. -/
structure Reverb.KeepsWord (v v' : Reverb) (i : Nat) : Prop where
  index : v'.index = v.index
  read : v'.ws.read i = v.ws.read i

section KeepsWord

variable {v v' : Reverb} {i : Nat}

theorem Reverb.KeepsWord.refl (v : Reverb) (i : Nat) : v.KeepsWord v i := ⟨rfl, rfl⟩

theorem Reverb.KeepsWord.wset (h : v.KeepsWord v' i) {a : Int} {x : F} (hi : i ≠ v.index a) :
    v.KeepsWord (v'.wset a x) i :=
  ⟨h.index, (v'.read_wset_other x a (h.index ▸ hi)).trans h.read⟩

theorem Reverb.KeepsWord.reflect (h : v.KeepsWord v' i) {x : F} {d m : Word} (hi : i ≠ v.index m.toNat) :
    v.KeepsWord (v'.reflect x d m) i := by
  rw [v'.reflect_eq_wset]
  exact h.wset hi

theorem Reverb.KeepsWord.apf (h : v.KeepsWord v' i) {x g : F} {m d : Word} (hi : i ≠ v.index m.toNat) :
    v.KeepsWord (v'.apf x m d g).1 i := by
  rw [v'.apf_eq_wset]
  exact h.wset hi

end KeepsWord

@[simp] theorem Reverb.advance_ws (v : Reverb) : v.advance.ws = v.ws := rfl

/-- The stages of R181 in their order, each with its one written index. -/
theorem Reverb.read_tick_other (v : Reverb) (inL inR : F) {i : Nat} (hi : i ∉ v.writeIndices) :
    (v.tick inL inR).1.ws.read i = v.ws.read i := by
  simp only [Reverb.writeIndices, List.mem_cons, List.not_mem_nil, not_or] at hi
  obtain ⟨hLSAME, hRSAME, hLAPF1, hRAPF1, hLAPF2, hRAPF2, hLDIFF, hRDIFF, -⟩ := hi
  simp only [Reverb.tick, Reverb.advance_ws]
  refine KeepsWord.read (v := v) ?_
  exact (KeepsWord.refl v i).reflect hLSAME |>.reflect hRSAME |>.apf hLAPF1 |>.apf hRAPF1 |>.apf hLAPF2
    |>.apf hRAPF2 |>.reflect hLDIFF |>.reflect hRDIFF

/-- What an RTICK past its checks makes of the state: one native tick on the input pair, its outputs in S4 and S5. -/
def State.tickReverb (s : State) : State :=
  { s with reverb := (s.reverb.tick s.samples.r0 s.samples.r1).1 }.setReverbOut
    (s.reverb.tick s.samples.r0 s.samples.r1).2.1 (s.reverb.tick s.samples.r0 s.samples.r1).2.2

theorem exec_rtick_ready {s : State} (hlive : s.status.fatal = false) (hready : s.status.rReady = true)
    (hring : s.reverbRingOk = true) : exec .rtick s = .next s.tickReverb.respondOk := by
  show execRtick s = _
  rw [execRtick, checkLive_of_live hlive, hready, check_true, hring, requireRam_true, State.tickReverb]

@[simp] theorem State.tickReverb_cfg (s : State) : s.tickReverb.cfg = s.cfg := State.setReverbOut_cfg _ _ _

@[simp] theorem State.tickReverb_reverb (s : State) :
    s.tickReverb.reverb = (s.reverb.tick s.samples.r0 s.samples.r1).1 := State.setReverbOut_reverb _ _ _

@[simp] theorem State.tickReverb_samples (s : State) :
    s.tickReverb.samples = { s.samples with
      r4 := (s.reverb.tick s.samples.r0 s.samples.r1).2.1, r5 := (s.reverb.tick s.samples.r0 s.samples.r1).2.2 } :=
  State.setReverbOut_samples _ _ _

theorem Bank.get_reverbOut (b : Bank 32) (l r : F) :
    ({ b with r4 := l, r5 := r } : Bank 32).get 4 = l ∧ ({ b with r4 := l, r5 := r } : Bank 32).get 5 = r := ⟨rfl, rfl⟩

/-- The two output registers of RTICK. -/
theorem State.readReg_tickReverb (s : State) :
    s.tickReverb.readReg (.sample 4) = (s.reverb.tick s.samples.r0 s.samples.r1).2.1 ∧
    s.tickReverb.readReg (.sample 5) = (s.reverb.tick s.samples.r0 s.samples.r1).2.2 := by
  rw [State.readReg, State.readReg, State.tickReverb_samples]
  exact Bank.get_reverbOut _ _ _

/-- With its settings kept, a reverb model changes only registers that RTICK writes. -/
theorem State.readReg_withReverb {s : State} {v : Reverb} (h : s.reverb.SameSettings v) {a : Reg}
    (ha : ¬ a.writtenByRtick) : { s with reverb := v }.readReg a = s.readReg a := by
  cases a with
  | rRate => exact h.rate
  | rCap => exact h.cap
  | rPreset => exact h.preset
  | rRing => exact h.ring
  | rCur => exact absurd trivial ha
  | gain g => exact congrArg (gainOf · g) h.gains
  | line l => exact congrArg (lineOf · l) h.lines
  | rs u k => cases u <;> rfl
  | _ => rfl

theorem State.tickReverb_frame (s : State) :
    Frame s s.tickReverb Reg.writtenByRtick nothing (· ∈ s.reverb.writeIndices) := by
  refine Frame.trans (State.withReverb_frame (fun a => State.readReg_withReverb (s.reverb.tick_sameSettings _ _))
    fun i hi => s.reverb.read_tick_other _ _ hi) (State.setRsOut_frame _ .rs1 _ _ fun i hi => ?_).withRams
  obtain ⟨hu, -⟩ | ⟨-, hi⟩ := hi
  · nomatch hu
  · exact hi

/-- Settles O27: the stages are those of `Reverb.tick`, and the words outside their eight indices stay. -/
theorem rtickRunsTheNetwork : Obligations.RtickRunsTheNetwork := by
  intro s hlive hready hring
  obtain ⟨hpos, -⟩ := s.reverbRingOk_iff.1 hring
  refine ⟨_, exec_rtick_ready hlive hready hring, State.answered_respondOk _, ?_, ?_,
    s.reverb.toNat_tick_cur _ _ hpos, fun _ => rfl, s.tickReverb_frame.respondOk⟩
  · rw [State.readReg_respondOk, s.readReg_tickReverb.1, Reverb.tick]
  · rw [State.readReg_respondOk, s.readReg_tickReverb.2, Reverb.tick]

/-! ## Silence (R185, R187) -/

section Zeros

variable {x y : F}

theorem isZero_fZero : IsZero fZero := isZero_iff.2 ⟨by decide, fReal_fZero⟩

/-- A value rounded from an exact 0 is a zero. -/
theorem RoundsTo.isZero {z : F} {sign : Bool} {exact scale : Int} (h : RoundsTo z sign exact scale)
    (hscale : scale ≠ 0) (hexact : exact = 0) : IsZero z := by
  have hkeep := h.of_exact (v := fZero) (by decide) hscale (by rw [fReal_fZero, zero_mul, hexact])
  rwa [fReal_fZero, ← isZero_iff] at hkeep

theorem IsZero.fadd (hx : IsZero x) (hy : IsZero y) : IsZero (fadd x y) := by
  obtain ⟨hx, hx0⟩ := isZero_iff.1 hx
  obtain ⟨hy, hy0⟩ := isZero_iff.1 hy
  exact (roundsTo_fadd hx hy).isZero one_ne_zero (by rw [hx0, hy0, add_zero])

theorem IsZero.fsub (hx : IsZero x) (hy : IsZero y) : IsZero (fsub x y) := by
  obtain ⟨hx, hx0⟩ := isZero_iff.1 hx
  obtain ⟨hy, hy0⟩ := isZero_iff.1 hy
  exact (roundsTo_fsub hx hy).isZero one_ne_zero (by rw [hx0, hy0, sub_zero])

theorem IsZero.fmul_left (hx : IsZero x) (hy : fIsFinite y = true) : IsZero (fmul x y) := by
  obtain ⟨hx, hx0⟩ := isZero_iff.1 hx
  exact isZero_iff.2 (fmul_eq_zero hx hy (.inl hx0))

theorem IsZero.fmul_right (hx : fIsFinite x = true) (hy : IsZero y) : IsZero (fmul x y) := by
  obtain ⟨hy, hy0⟩ := isZero_iff.1 hy
  exact isZero_iff.2 (fmul_eq_zero hx hy (.inr hy0))

end Zeros

/-- The ring holds zeros only, and no gain makes anything else of a zero. -/
structure Reverb.Silent (v : Reverb) : Prop where
  ring_pos : 1 ≤ v.ring.toNat
  ring_zero : ∀ i, i < v.ring.toNat → IsZero (v.ws.read i)
  gains : ∀ g, fIsFinite (gainOf v.gains g) = true

theorem State.reverb_silent_iff (s : State) (hring : 1 ≤ s.reverb.ring.toNat) :
    s.reverb.Silent ↔ s.ReverbSilent ∧ s.GainsFinite :=
  ⟨fun h => ⟨h.ring_zero, h.gains⟩, fun ⟨hzero, hgains⟩ => ⟨hring, hzero, hgains⟩⟩

section Silent

variable {v : Reverb} {x g : F} {d m : Word}

/-- Every read goes through the cursor, and so into the ring. -/
theorem Reverb.Silent.w (h : v.Silent) (a : Int) : IsZero (v.w a) := h.ring_zero _ (ringIndex_lt _ h.ring_pos)

theorem Reverb.Silent.wset (h : v.Silent) (hx : IsZero x) (a : Int) : (v.wset a x).Silent := by
  refine ⟨h.ring_pos, fun i hi => ?_, h.gains⟩
  by_cases hidx : i = v.index a
  · have hread : (v.wset a x).ws.read i = x := hidx ▸ v.w_wset_same x a
    rwa [hread]
  · rw [v.read_wset_other x a hidx]
    exact h.ring_zero i hi

theorem Reverb.Silent.reflect (h : v.Silent) (hx : IsZero x) : (v.reflect x d m).Silent := by
  rw [v.reflect_eq_wset]
  have hinp := hx.fadd ((h.w d.toNat).fmul_left (h.gains .wall))
  exact h.wset (((hinp.fsub (h.w _)).fmul_left (h.gains .iir)).fadd (h.w _)) _

theorem Reverb.Silent.comb (h : v.Silent) (a1 a2 a3 a4 : Word) : IsZero (v.comb a1 a2 a3 a4) := by
  rw [v.comb_eq]
  exact (((IsZero.fmul_right (h.gains .comb1) (h.w _)).fadd (.fmul_right (h.gains .comb2) (h.w _))).fadd
    (.fmul_right (h.gains .comb3) (h.w _))).fadd (.fmul_right (h.gains .comb4) (h.w _))

/-- A silent all-pass stage writes a zero and answers one. -/
theorem Reverb.Silent.apf (h : v.Silent) (hx : IsZero x) (hg : fIsFinite g = true) :
    (v.apf x m d g).1.Silent ∧ IsZero (v.apf x m d g).2 := by
  rw [v.apf_eq_wset, v.apf_output]
  have hv := hx.fsub (.fmul_right hg (h.w ((m.toNat : Int) - (d.toNat : Int))))
  exact ⟨h.wset hv _, (hv.fmul_left hg).fadd (h.w _)⟩

theorem Reverb.Silent.advance (h : v.Silent) : v.advance.Silent := ⟨h.ring_pos, h.ring_zero, h.gains⟩

/-- The stages of R181 in their order: zeros in, zeros written, zeros out. -/
theorem Reverb.Silent.tick (h : v.Silent) {inL inR : F} (hL : IsZero inL) (hR : IsZero inR) :
    (v.tick inL inR).1.Silent ∧ IsZero (v.tick inL inR).2.1 ∧ IsZero (v.tick inL inR).2.2 := by
  simp only [Reverb.tick]
  have hlin := IsZero.fmul_right (h.gains .lin) hL
  have hrin := IsZero.fmul_right (h.gains .rin) hR
  have hsame := (h.reflect hlin (d := v.lines.dLSAME) (m := v.lines.mLSAME)).reflect hrin
    (d := v.lines.dRSAME) (m := v.lines.mRSAME)
  have ⟨h1, hl1⟩ := hsame.apf (hsame.comb v.lines.mLCOMB1 v.lines.mLCOMB2 v.lines.mLCOMB3 v.lines.mLCOMB4)
    (h.gains .apf1) (m := v.lines.mLAPF1) (d := v.lines.dAPF1)
  have ⟨h2, hr1⟩ := h1.apf (hsame.comb v.lines.mRCOMB1 v.lines.mRCOMB2 v.lines.mRCOMB3 v.lines.mRCOMB4)
    (h.gains .apf1) (m := v.lines.mRAPF1) (d := v.lines.dAPF1)
  have ⟨h3, hl2⟩ := h2.apf hl1 (h.gains .apf2) (m := v.lines.mLAPF2) (d := v.lines.dAPF2)
  have ⟨h4, hr2⟩ := h3.apf hr1 (h.gains .apf2) (m := v.lines.mRAPF2) (d := v.lines.dAPF2)
  exact ⟨((h4.reflect hlin).reflect hrin).advance, hl2, hr2⟩

end Silent

theorem Reverb.RingIn.ring_pos {v : Reverb} {words : Nat} (h : v.RingIn words) : 1 ≤ v.ring.toNat := by
  obtain ⟨-, -, -, hcur, -⟩ := h
  omega

theorem Reverb.RingIn.clear {v : Reverb} {words : Nat} (h : v.RingIn words) : v.clear.RingIn words := h

theorem State.ReverbOk.reverbRingOk {s : State} (h : s.ReverbOk) : s.reverbRingOk = true := by
  have ⟨_, hcap, hwords, _⟩ := h
  exact s.reverbRingOk_iff.2 ⟨(s.reverbOk_iff.1 h).ring_pos, hcap.trans hwords⟩

/-- Settles O31: RCLR zeroes the capacity and so the ring in it; a silent ring and zero input give zeros at every
stage. -/
theorem silentReverbStaysSilent : Obligations.SilentReverbStaysSilent := by
  refine ⟨fun s hlive hready hok => ?_, fun s hlive hready hok hgains hsilent hL hR => ?_⟩
  · have ⟨_, hcap, hwords, _⟩ := hok
    refine ⟨_, exec_rclr_ready hlive hready hwords, fun i hi => ?_, (s.reverbOk_iff.1 hok).clear⟩
    have hzero : IsZero (s.reverb.clear.ws.read i) := by
      rw [s.reverb.read_clear (hi.trans_le hcap)]
      exact isZero_fZero
    exact hzero
  · have hring := s.reverbOk_iff.1 hok
    have hpos := hring.ring_pos
    obtain ⟨htick, houtL, houtR⟩ := ((s.reverb_silent_iff hpos).2 ⟨hsilent, hgains⟩).tick hL hR
    obtain ⟨hsilent', hgains'⟩ := (s.tickReverb.respondOk.reverb_silent_iff htick.ring_pos).1 htick
    refine ⟨_, exec_rtick_ready hlive hready hok.reverbRingOk, ?_, ?_, hsilent', ?_, hgains'⟩
    · rw [State.respondOk_samples, s.tickReverb_samples]
      dsimp only
      exact houtL
    · rw [State.respondOk_samples, s.tickReverb_samples]
      dsimp only
      exact houtR
    rw [State.reverbOk_iff, State.respondOk_reverb, State.tickReverb_reverb, State.respondOk_cfg, State.tickReverb_cfg]
    exact hring.tick _ _

end Sys2Proof.Machine

/-!
PROOFS. The statements of the mixer and the frame data flow (44_mixer). FRAME has the two admission checks of RSTICK in
one, and a driving tick touches neither what the other one reads nor the port (`State.rsTick_comm`,
`State.rsTick_respondOk`), so the ticks may be answered in between and may change places.
-/

namespace Sys2Proof.Machine

/-! ## MIX (R201, R202) -/

theorem exec_mix_of_live {s : State} (hlive : s.status.fatal = false) : exec .mix s = .next s.mix.respondOk := by
  show execMix s = _
  rw [execMix, checkLive_of_live hlive]

/-- One channel, with the crossfade written out (R98, R202). -/
theorem mixChannel_eq (dry echoOut reverbOut f w : F) :
    mixChannel dry echoOut reverbOut f w =
      lerp dry (fadd (fmul echoOut (qsin (fsub fOne f))) (fmul reverbOut (qsin f))) w := by
  rw [mixChannel, xfade]

theorem State.readReg_mix_left (s : State) :
    s.mix.readReg (.sample 6) =
      mixChannel s.samples.r0 s.samples.r2 s.samples.r4 (clamp01 s.xfade) (clamp01 s.wetdry) := rfl

theorem State.readReg_mix_right (s : State) :
    s.mix.readReg (.sample 7) =
      mixChannel s.samples.r1 s.samples.r3 s.samples.r5 (clamp01 s.xfade) (clamp01 s.wetdry) := rfl

theorem State.mix_frame (s : State) :
    Frame s s.mix (fun a => a = .sample 6 ∨ a = .sample 7) nothing nothing :=
  s.setFrameOut_frame _ _ fun _ hi => hi.imp (congrArg Reg.sample) (congrArg Reg.sample)

/-- Settles O38: S6 and S7 take the two channels of the mix, and no other register is written. -/
theorem mixBlendsEffectsAndDry : Obligations.MixBlendsEffectsAndDry := by
  intro s hlive
  refine ⟨s.mix.respondOk, exec_mix_of_live hlive, s.mix.answered_respondOk, ?_, ?_, s.mix_frame.respondOk⟩
  · rw [State.readReg_respondOk, State.readReg_mix_left, mixChannel_eq]
  · rw [State.readReg_respondOk, State.readReg_mix_right, mixChannel_eq]

/-! ## What the order of two driving ticks leaves the same (R206) -/

section TwoTicks

variable {s t s1 s2 : State} {u v : RsId}

/-- A driving tick neither reads nor writes the port. -/
theorem State.rsTick_respondOk (ht : s.rsTick u = some t) : s.respondOk.rsTick u = some t.respondOk := by
  cases u with
  | rs0 =>
    obtain ⟨r, e, l, o, hp, rfl⟩ := State.rsTick_rs0 ht
    exact State.rsTick_rs0_of_rsProcess hp
  | rs1 =>
    obtain ⟨r, e, l, o, hp, rfl⟩ := State.rsTick_rs1 ht
    exact State.rsTick_rs1_of_rsProcess hp

/-- Both ticks read S0 and S1 and each writes its own resampler, model and output pair. -/
theorem State.rsTick_comm (ht0 : s.rsTick .rs0 = some s1) (ht1 : s1.rsTick .rs1 = some s2) :
    ∃ s3, s.rsTick .rs1 = some s3 ∧ s3.rsTick .rs0 = some s2 := by
  obtain ⟨r0, e, l0, o0, hp0, rfl⟩ := State.rsTick_rs0 ht0
  obtain ⟨r1, w, l1, o1, hp1, rfl⟩ := State.rsTick_rs1 ht1
  exact ⟨_, State.rsTick_rs1_of_rsProcess hp1, State.rsTick_rs0_of_rsProcess hp0⟩

/-- Resampler 1 leaves the echo model, and so its ring. -/
theorem State.rsTick_rs1_echoRingOk (ht : s.rsTick .rs1 = some t) : t.echoRingOk = s.echoRingOk := by
  obtain ⟨n, r, -, rfl⟩ := State.rsTick_rs1_effect ht
  rfl

/-- A tick of one resampler leaves the ring of the other one's model. -/
theorem State.rsTick_modelRingOk_other (hne : v ≠ u) (ht : s.rsTick u = some t) :
    t.modelRingOk v = s.modelRingOk v := by
  cases u with
  | rs0 =>
    cases v with
    | rs0 => exact absurd rfl hne
    | rs1 => exact State.rsTick_rs0_reverbRingOk ht
  | rs1 =>
    cases v with
    | rs0 => exact State.rsTick_rs1_echoRingOk ht
    | rs1 => exact absurd rfl hne

/-- RSTICK u runs its tick: FATAL = 0, the resampler and its model are ready and the model's ring is in place. -/
structure State.RstickAdmitted (s : State) (u : RsId) : Prop where
  live : s.status.fatal = false
  ready : s.rsReady u = true
  ring : s.modelRingOk u = true

theorem State.FrameAdmitted.rstick (h : s.FrameAdmitted) : ∀ u, s.RstickAdmitted u
  | .rs0 => ⟨h.live, h.ready0, h.echoRing⟩
  | .rs1 => ⟨h.live, h.ready1, h.reverbRing⟩

/-- RSTICK of one resampler leaves the checks of the other one's as they were. -/
theorem State.RstickAdmitted.after_other (h : s.RstickAdmitted v) (hne : v ≠ u) (ht : s.rsTick u = some t) :
    t.respondOk.RstickAdmitted v := by
  have hstatus : t.respondOk.status = s.status := t.respondOk_status.trans (State.rsTick_status ht)
  refine ⟨hstatus ▸ h.live, ?_, (State.rsTick_modelRingOk_other hne ht).trans h.ring⟩
  rw [State.rsReady, hstatus]
  exact h.ready

/-- RSTICK of the two resamplers, one after the other, is their two ticks. -/
theorem exec_rsticks (hne : v ≠ u) (hu : s.RstickAdmitted u) (hv : s.RstickAdmitted v) (ht : s.rsTick u = some s1)
    (ht' : s1.rsTick v = some s2) :
    exec (.rstick u) s = .next s1.respondOk ∧ exec (.rstick v) s1.respondOk = .next s2.respondOk := by
  have hafter := hv.after_other hne ht
  exact ⟨exec_rstick_of_rsTick hu.live hu.ready hu.ring ht,
    exec_rstick_of_rsTick (t := s2.respondOk) hafter.live hafter.ready hafter.ring (State.rsTick_respondOk ht')⟩

/-! ## FRAME that answers OK (R205) -/

/-- A FRAME that answers OK has passed all its checks. -/
theorem frameAdmitted_of_exec_frame (h : exec .frame s = .next t) (hok : t.port.resp = 0#4) : s.FrameAdmitted := by
  obtain ⟨-, rfl⟩ | ⟨hlive, h⟩ := checkLive_next h
  · simp [Response.code] at hok
  obtain ⟨-, rfl⟩ | ⟨hready, h⟩ := check_next h
  · simp [Response.code] at hok
  obtain ⟨hecho, h⟩ := requireRam_next h
  obtain ⟨hreverb, -⟩ := requireRam_next h
  simp only [Bool.and_eq_true] at hready
  obtain ⟨⟨⟨he, hr⟩, h0⟩, h1⟩ := hready
  exact ⟨hlive, Bool.and_eq_true_iff.2 ⟨h0, he⟩, Bool.and_eq_true_iff.2 ⟨h1, hr⟩, hecho, hreverb⟩

/-- An admitted FRAME that answers OK ran both ticks and the mix: where a tick is missing it answers ERR_WATCHDOG. -/
theorem State.FrameAdmitted.ticks_of_exec (hadmitted : s.FrameAdmitted) (h : exec .frame s = .next t)
    (hok : t.port.resp = 0#4) :
    ∃ s1 s2, s.rsTick .rs0 = some s1 ∧ s1.rsTick .rs1 = some s2 ∧ t = s2.mix.respondOk := by
  have not_watchdog {q : State} {u : RsId} (hq : exec .frame s = .next (q.takeWatchdog u true)) : False := by
    obtain rfl := Host.Outcome.next.inj (h.symm.trans hq)
    rw [q.takeWatchdog_resp] at hok
    exact absurd hok (by decide)
  cases ht0 : s.rsTick .rs0 with
  | none => exact (not_watchdog (hadmitted.exec_watchdog0 ht0)).elim
  | some s1 =>
    cases ht1 : s1.rsTick .rs1 with
    | none => exact (not_watchdog (hadmitted.exec_watchdog1 ht0 ht1)).elim
    | some s2 => exact ⟨s1, s2, rfl, ht1, Host.Outcome.next.inj (h.symm.trans (hadmitted.exec_ticks ht0 ht1))⟩

end TwoTicks

/-- Settles O41: the answers of the two RSTICK in between are overwritten by MIX's, and the ticks commute. -/
theorem frameIsTwoTicksAndMix : Obligations.FrameIsTwoTicksAndMix := by
  intro s t h hok
  have hadmitted := frameAdmitted_of_exec_frame h hok
  obtain ⟨s1, s2, ht0, ht1, rfl⟩ := hadmitted.ticks_of_exec h hok
  obtain ⟨s3, ht1', ht0'⟩ := State.rsTick_comm ht0 ht1
  have hadm := hadmitted.rstick
  obtain ⟨hexec0, hexec1⟩ := exec_rsticks (by decide) (hadm .rs0) (hadm .rs1) ht0 ht1
  obtain ⟨hexec1', hexec0'⟩ := exec_rsticks (by decide) (hadm .rs1) (hadm .rs0) ht1' ht0'
  have hstatus : s2.status = s.status := (State.rsTick_status ht1).trans (State.rsTick_status ht0)
  have hmix : exec .mix s2.respondOk = .next s2.mix.respondOk := exec_mix_of_live (hstatus ▸ hadmitted.live)
  exact ⟨s1.respondOk, s2.respondOk, hexec0, rfl, hexec1, rfl, hmix, s3.respondOk, hexec1', hexec0'⟩

end Sys2Proof.Machine

/-!
PROOFS. The statements of host access about commands without an effect (45_host_access R216, R217, R223): NOP, the errors
of WR, and the commands on units that are not constructed. NOP has no check to fail; each of the others ends at one check
of R238, and `answers_of_respond` says that nothing but the answer has changed.
-/

namespace Sys2Proof.Machine

/-! ## NOP (R216) -/

theorem exec_nop (s : State) : exec .nop s = .next (s.respond .ok 0#32) := rfl

/-- Settles O10: NOP only answers, halted or not. -/
theorem nopAnswersOk : Obligations.NopAnswersOk :=
  fun s => answers_of_respond (exec_nop s)

/-! ## A check that fails (R238) -/

/-- Past the halt check, a check that fails only answers its error. -/
theorem checkLive_check_failed {s : State} {ok : Bool} {e : Response} {k : Result} (hlive : s.status.fatal = false)
    (hok : ok = false) : checkLive s (check ok e s k) = .next (s.respond e 0#32) := by
  rw [checkLive_of_live hlive, hok, check_false, State.takeError_none]

/-! ## The errors of WR (R217) -/

section WrErrors

variable {s : State} {a : Nat} {r : Reg}

theorem exec_wr_halted (h : s.status.fatal = true) : exec (.wr a) s = .next (s.respond .halted 0#32) :=
  checkLive_of_fatal h

theorem exec_wr_reserved (hlive : s.status.fatal = false) (ha : Reg.ofNumber a = none) :
    exec (.wr a) s = .next (s.respond .range 0#32) := by
  show execWr a s = _
  rw [execWr, checkLive_of_live hlive, ha]
  rfl

theorem exec_wr_readOnly (hlive : s.status.fatal = false) (ha : Reg.ofNumber a = some r) (hr : r.writable = false) :
    exec (.wr a) s = .next (s.respond .readOnly 0#32) := by
  show execWr a s = _
  rw [execWr, ha]
  exact checkLive_check_failed hlive hr

end WrErrors

/-- Settles O14, check by check in the order of R238. -/
theorem wrErrorsChangeNothing : Obligations.WrErrorsChangeNothing :=
  fun _ _ => ⟨fun h => answers_of_respond (exec_wr_halted h),
    fun hlive ha => answers_of_respond (exec_wr_reserved hlive ha),
    fun _ hlive ha hr => answers_of_respond (exec_wr_readOnly hlive ha hr)⟩

/-! ## Units that are not constructed (R223) -/

/-- RSTICK needs the resampler and the model it drives. -/
theorem State.rsReady_eq_false {s : State} {u : RsId}
    (h : s.status.ready (.rs u) = false ∨ s.status.ready (rsModel u) = false) : s.rsReady u = false :=
  Bool.and_eq_false_iff.2 h

/-- FRAME needs every unit. -/
theorem frame_not_ready {st : Status} {k : UnitId} (h : st.ready k = false) :
    (st.eReady && st.rReady && st.rs0Ready && st.rs1Ready) = false := by
  simp only [Bool.and_eq_false_iff]
  match k with
  | .echo => exact .inl (.inl (.inl h))
  | .reverb => exact .inl (.inl (.inr h))
  | .rs .rs0 => exact .inl (.inr h)
  | .rs .rs1 => exact .inr h

section NotReady

variable {s : State}

theorem exec_echo_notReady {i : Instr} (hlive : s.status.fatal = false) (h : s.status.eReady = false)
    (hi : i = .etick ∨ i = .eclr) : exec i s = .next (s.respond .notReady 0#32) := by
  obtain rfl | rfl := hi <;> exact checkLive_check_failed hlive h

theorem exec_reverb_notReady {i : Instr} (hlive : s.status.fatal = false) (h : s.status.rReady = false)
    (hi : i = .rtick ∨ i = .rclr) : exec i s = .next (s.respond .notReady 0#32) := by
  obtain rfl | rfl := hi <;> exact checkLive_check_failed hlive h

theorem exec_rsclr_notReady {u : RsId} (hlive : s.status.fatal = false) (h : s.status.ready (.rs u) = false) :
    exec (.rsclr u) s = .next (s.respond .notReady 0#32) :=
  checkLive_check_failed hlive h

theorem exec_rstick_notReady {u : RsId} (hlive : s.status.fatal = false)
    (h : s.status.ready (.rs u) = false ∨ s.status.ready (rsModel u) = false) :
    exec (.rstick u) s = .next (s.respond .notReady 0#32) :=
  checkLive_check_failed hlive (State.rsReady_eq_false h)

theorem exec_frame_notReady {k : UnitId} (hlive : s.status.fatal = false) (h : s.status.ready k = false) :
    exec .frame s = .next (s.respond .notReady 0#32) :=
  checkLive_check_failed hlive (frame_not_ready h)

end NotReady

/-- Settles O45, command by command: the readiness check of each fails and comes before its effect. -/
theorem unconstructedUnitsAnswerNotReady : Obligations.UnconstructedUnitsAnswerNotReady :=
  fun _ hlive => ⟨fun h _ hi => answers_of_respond (exec_echo_notReady hlive h hi),
    fun h _ hi => answers_of_respond (exec_reverb_notReady hlive h hi),
    fun _ h => answers_of_respond (exec_rsclr_notReady hlive h),
    fun h => answers_of_respond (exec_rstick_notReady (u := .rs0) hlive h),
    fun h => answers_of_respond (exec_rstick_notReady (u := .rs1) hlive h),
    fun ⟨_, h⟩ => answers_of_respond (exec_frame_notReady hlive h)⟩

end Sys2Proof.Machine

/-!
PROOFS. The statements of the errors (60_exceptions R237, R241). A command that does anything beyond its answer answers
OK or a fatal code (`Effect.onlyAnswers_or_resp`), so a non-fatal error leaves no trace. While FATAL = 1 every command
ends at check 2 of R238 or is one of the four that have no such check and only answer; so only a reset reaches STATUS.
-/

namespace Sys2Proof.Machine

/-! ## Non-fatal errors (R237) -/

theorem onlyAnswers_respond (s : State) (r : Response) (v : Word) : OnlyAnswers s (s.respond r v) := rfl

theorem OnlyAnswers.status {s t : State} (h : OnlyAnswers s t) : t.status = s.status := by
  rw [h]

theorem State.respondOk_resp (s : State) : s.respondOk.port.resp = 0#4 := rfl

/-- A command that changes more than the answer answers OK or one of the three fatal codes. -/
theorem Effect.onlyAnswers_or_resp {s t : State} {i : Instr} (h : Effect s i t) :
    OnlyAnswers s t ∨ t.port.resp = 0#4 ∨ t.port.resp = 5#4 ∨ t.port.resp = 6#4 ∨ t.port.resp = 7#4 := by
  cases h with
  | answer _ r v => exact .inl (onlyAnswers_respond s r v)
  | constructorFails _ e u he =>
    obtain rfl | rfl := he
    · exact .inr (.inr (.inl rfl))
    · exact .inr (.inr (.inr (.inl rfl)))
  | rstickWatchdog u => exact .inr (.inr (.inr (.inr (s.takeWatchdog_resp u _))))
  | frameWatchdog0 => exact .inr (.inr (.inr (.inr (s.takeWatchdog_resp _ _))))
  | frameWatchdog1 s1 => exact .inr (.inr (.inr (.inr (s1.takeWatchdog_resp _ _))))
  | _ => exact .inr (.inl (State.respondOk_resp _))

/-- Settles O42: the code of a non-fatal error is none of those that come with a change, and an illegal word is only
answered. -/
theorem nonFatalErrorsLeaveNoTrace : Obligations.NonFatalErrorsLeaveNoTrace := by
  refine ⟨fun i s t h herr => ?_, fun s rest c w hp hd => ⟨_, step_illegal hp hd, onlyAnswers_respond _ _ _⟩⟩
  refine (exec_effect h).onlyAnswers_or_resp.resolve_right fun hresp => ?_
  obtain hresp | hresp | hresp | hresp := hresp <;> rw [hresp] at herr <;> revert herr <;> decide

/-! ## The halted condition (R241) -/

/-- The commands that R241 admits while FATAL = 1. -/
def Instr.AdmittedWhileHalted (i : Instr) : Prop :=
  i = .nop ∨ (∃ a, i = .rd a) ∨ (∃ x, i = .ebrd x) ∨ ∃ x, i = .wsrd x

section Halted

variable {s t : State} {i : Instr}

/-- The meaning of every command but the four admitted ones begins with the halt check. -/
theorem exec_halted (hf : s.status.fatal = true) (hi : ¬ Instr.AdmittedWhileHalted i) :
    exec i s = .next (s.respond .halted 0#32) := by
  cases i with
  | nop => exact absurd (.inl rfl) hi
  | rd a => exact absurd (.inr (.inl ⟨a, rfl⟩)) hi
  | ebrd x => exact absurd (.inr (.inr (.inl ⟨x, rfl⟩))) hi
  | wsrd x => exact absurd (.inr (.inr (.inr ⟨x, rfl⟩))) hi
  | _ => exact checkLive_of_fatal hf

/-- An admitted command answers OK or ERR_RANGE and does nothing else, in every state. -/
theorem exec_admitted (s : State) (hi : Instr.AdmittedWhileHalted i) :
    ∃ r v, (r = .ok ∨ r = .range) ∧ exec i s = .next (s.respond r v) := by
  obtain rfl | ⟨a, rfl⟩ | ⟨x, rfl⟩ | ⟨x, rfl⟩ := hi
  · exact ⟨.ok, _, .inl rfl, exec_nop s⟩
  · cases ha : Reg.ofNumber a with
    | none => exact ⟨.range, _, .inr rfl, exec_rd_none ha⟩
    | some r => exact ⟨.ok, _, .inl rfl, exec_rd_some ha⟩
  · rcases Nat.lt_or_ge x s.cfg.ebWords with hx | hx
    · exact ⟨.ok, _, .inl rfl, exec_ebrd_inside hx⟩
    · exact ⟨.range, _, .inr rfl, exec_ebrd_outside hx⟩
  · rcases Nat.lt_or_ge x s.cfg.wsWords with hx | hx
    · exact ⟨.ok, _, .inl rfl, exec_wsrd_inside hx⟩
    · exact ⟨.range, _, .inr rfl, exec_wsrd_outside hx⟩

theorem exec_admitted_answers (s : State) (hi : Instr.AdmittedWhileHalted i) :
    ∃ t, exec i s = .next t ∧ t.port.resp ≠ 8#4 ∧ OnlyAnswers s t := by
  obtain ⟨r, v, hr, h⟩ := exec_admitted s hi
  refine ⟨_, h, ?_, onlyAnswers_respond s r v⟩
  obtain rfl | rfl := hr
  · exact (by decide : (0#4 : BitVec 4) ≠ 8#4)
  · exact (by decide : (2#4 : BitVec 4) ≠ 8#4)

/-- While halted no command does more than answer. -/
theorem onlyAnswers_of_fatal (hf : s.status.fatal = true) (h : exec i s = .next t) : OnlyAnswers s t := by
  by_cases hi : Instr.AdmittedWhileHalted i
  · obtain ⟨r, v, -, h'⟩ := exec_admitted s hi
    obtain rfl := Host.Outcome.next.inj (h'.symm.trans h)
    exact onlyAnswers_respond s r v
  · obtain rfl := Host.Outcome.next.inj ((exec_halted hf hi).symm.trans h)
    exact onlyAnswers_respond s .halted _

/-- While halted a step without a reset keeps STATUS: nothing, an illegal word or a command that only answers. -/
theorem step_status_of_fatal (hf : s.status.fatal = true) (h : step s = .next t)
    (hreset : ∀ rest, s.pending ≠ .reset :: rest) : t.status = s.status := by
  obtain ⟨-, rfl⟩ | ⟨rest, hp, -⟩ | ⟨rest, c, w, -, -, rfl⟩ | ⟨rest, c, w, i, -, -, hexec⟩ := step_cases h
  · rfl
  · exact absurd hp (hreset rest)
  · exact (onlyAnswers_respond (s.present rest c w) .illegal 0#32).status
  · exact (onlyAnswers_of_fatal (s := s.present rest c w) hf hexec).status

end Halted

/-- Settles O44: a command ends at the halt check or is one of the four that only answer. -/
theorem haltedAdmitsOnlyReads : Obligations.HaltedAdmitsOnlyReads := by
  refine ⟨fun i s hf hnop hrd hebrd hwsrd => answers_of_respond (exec_halted hf ?_),
    fun _ s _ hi => exec_admitted_answers s hi, fun _ _ hf h hreset => step_status_of_fatal hf h hreset⟩
  rintro (hi | ⟨a, hi⟩ | ⟨x, hi⟩ | ⟨x, hi⟩)
  · exact hnop hi
  · exact hrd a hi
  · exact hebrd x hi
  · exact hwsrd x hi

end Sys2Proof.Machine

/-!
PROOFS. The statement of reset (70_reset_and_hazards R260). A reset the host asserts differs from the power-up reset of
R37 only in what no register shows: the configuration, the host's later events, the seeds of the two RAMs and the count
of free values. So its registers are those of `resetRegistersHoldSpecValues`.
-/

namespace Sys2Proof.Machine

/-! ## A reset the host asserts (R260) -/

theorem step_reset {s : State} {rest : List HostEvent} (h : s.pending = .reset :: rest) :
    step s = .next { s with pending := rest }.hardReset := by
  rw [step, State.fetch_reset h]

/-- Register by register: none shows the configuration, the host's events, a seed or the count of free values. -/
theorem State.readReg_hardReset (s : State) (r : Reg) : s.hardReset.readReg r = State.reset.readReg r := by
  cases r with
  | rs u k => cases u <;> rfl
  | _ => rfl

/-- Settles O8: the step is a hard reset, whose registers read as those of the reset state do. -/
theorem resetEventRestoresRegisters : Obligations.ResetEventRestoresRegisters := by
  intro s rest hp
  obtain ⟨hregs, -, -⟩ := resetRegistersHoldSpecValues
  exact ⟨_, step_reset hp, fun r => (State.readReg_hardReset _ r).trans (hregs r), rfl, rfl, rfl, rfl, rfl⟩

end Sys2Proof.Machine
